-- ==== Sys2Proof/Word.lean ====
section
/-! DEFINITION. The byte that crosses the SPI link and the plant legs (R180, R181). Every other quantity of the HE420 is a count
with a stated range, and is a `Nat` or an `Int`; a tier set and a pass set are bit vectors where they are used. -/

namespace Sys2Proof

/-- One byte on the SPI link, or one character on a leg. -/
abbrev Byte := BitVec 8

end Sys2Proof
end

