-- ==== Sys2Proof/Syntax.lean ====
section
/-! DEFINITION. The commands of the HE420: one constructor for each row of the table of operations and events. A request row
carries the body of its frame, byte for byte and of any length, as the Request Port receives it (R171); the fields are read from
it by the owner (Machine/Operands.lean, R180). The other rows carry what the outside world gives the event. -/

namespace Sys2Proof

/-- A level on a pin, in the order in which section 9.1 lists the two. -/
inductive Level where
  | high
  | low
  deriving DecidableEq, Repr

/-- R79: what the outside world tells a leg of RX, found in one condition outside TRANSMITTING: for how many microseconds, and whether that goes on
from the measurement in progress without a break. -/
structure Measurement where
  micros : Nat
  unbroken : Bool
  deriving DecidableEq, Repr

/-- R83: a frame that Clear Store cut short: the leg that was sending it, and how many of its characters it has sent when it lowers TXEN, the character
that was in progress among them. -/
structure FrameCut where
  leg : Nat
  characters : Nat
  deriving DecidableEq, Repr

/-- One command: a request of the head-end computer, or an event of the pins, the clock, the legs or a walk. -/
inductive Instr where
  /-- R176: RESETn held low or power-on puts every block in its reset state, with the device in LOADING, the port IDLE and RDY and ATTN low. `selectAsserted`: whether SELn is asserted as the part leaves reset (R172). -/
  | hardReset (selectAsserted : Bool)
  /-- R173: A complete request frame that arrives while the port is SERVING is discarded whatever its code, and the request overrun flag is set. The code and body of the frame. -/
  | requestFrameDiscarded (code : Byte) (body : List Byte)
  /-- R172: A select deasserted before its request frame is complete discards the partial frame and changes nothing else. The bytes received before the select was deasserted. -/
  | partialFrameDiscarded (bytes : List Byte)
  /-- R175: An accepted frame whose request code is not in the code table is answered UNKNOWN_REQUEST and reaches no block. The code and body of the frame. -/
  | unknownRequest (code : Byte) (body : List Byte)
  /-- R173: When the owner block has answered, the response is placed in the response buffer, the port becomes WAITING and RDY rises. -/
  | responseReady
  /-- R174: A read select shifts out the waiting response, which is then emptied with RDY falling and the port IDLE; cut short, it leaves the response waiting; in IDLE or SERVING it shifts out the empty frame. How many bytes were clocked after the read code. -/
  | readSelect (clocked : Nat)
  /-- R177: Makes every element SUSPECT, forgets confirmed tap settings, enters LIVE, starts the period, requests an ALL sweep and starts every leg's poll cycle. -/
  | goLive (body : List Byte)
  /-- R178: Abandons leg transactions and walks, empties the tables and the alarm table, raises the causes that still stand, and enters LOADING. -/
  | clearStore (body : List Byte)
  /-- R179: Reports the mode, the overrun flag (then clears it), the clock, the table counts, the alarm counts and the walks in flight. -/
  | readStatus (body : List Byte)
  /-- R9: Tests and creates a subscriber record at the lowest free index, with an optional binding and an urgent need for its tap. -/
  | enrol (body : List Byte)
  /-- R11: Returns a subscriber record by account number. -/
  | readSubscriber (body : List Byte)
  /-- R12: Returns the record with the lowest account above the one given. -/
  | nextSubscriber (body : List Byte)
  /-- R13: Returns the lowest-account record whose changed flag is set, and clears that flag. -/
  | nextChangedSubscriber (body : List Byte)
  /-- R20: Replaces a record's tier set and makes an urgent need for a bound record's tap. -/
  | changeTiers (body : List Byte)
  /-- R21: Binds a subscriber to a tap port and makes an urgent need for the tap. -/
  | bind (body : List Byte)
  /-- R22: Rebinds a subscriber from its port to another, refused with BUSY while either tap is in flight. -/
  | move (body : List Byte)
  /-- R23: Releases the tap port of a NEW or CLOSED record and makes an urgent need for the tap. -/
  | unbind (body : List Byte)
  /-- R14: Moves a NEW record to ACTIVE or LAPSED by the funds test. -/
  | activate (body : List Byte)
  /-- R15: Moves an ACTIVE or LAPSED record to SUSPENDED. -/
  | suspend (body : List Byte)
  /-- R16: Moves a SUSPENDED record to ACTIVE or LAPSED by the funds test. -/
  | resume (body : List Byte)
  /-- R17: Stores a new credit ceiling for an ACCOUNT record and re-tests ACTIVE or LAPSED against it. -/
  | setCeiling (body : List Byte)
  /-- R18: Empties the purchase list, settles the episode, makes the record CLOSED and writes the final statement. -/
  | closeSubscriber (body : List Byte)
  /-- R19: Removes a CLOSED record with an empty statement slot, releasing its tap port. -/
  | retireSubscriber (body : List Byte)
  /-- R28: Replaces a slot's current definition in LOADING and requests an ALL sweep. -/
  | defineChannel (body : List Byte)
  /-- R29: Stores a staged definition with an effective minute on a slot, replacing any staged change already there. -/
  | stageChannelChange (body : List Byte)
  /-- R30: Removes a slot's staged change. -/
  | withdrawStagedChange (body : List Byte)
  /-- R34: Returns a slot's definition, staged change, dark flag and last stage result. -/
  | readChannel (body : List Byte)
  /-- R39: Sets a tier's current rate and label in LOADING. -/
  | defineTier (body : List Byte)
  /-- R40: Stores a staged rate on a tier in LIVE. -/
  | stageTierRate (body : List Byte)
  /-- R42: Returns a tier's current rate, staged rate and label. -/
  | readTier (body : List Byte)
  /-- R44: Creates a tap record at the lowest free index. -/
  | enrolTap (body : List Byte)
  /-- R45: Removes an unbound tap that is not in flight, from its queue and from the table. -/
  | retireTap (body : List Byte)
  /-- R46: Returns a tap record with the desired setting of each port computed at that moment. -/
  | readTap (body : List Byte)
  /-- R61: Makes the tap's confirmed settings absent, removes a running countdown and makes an urgent need. -/
  | resendTap (body : List Byte)
  /-- R65: Returns the queue counts, held counts, in-flight and SILENT counts, and the sweep state. -/
  | readSwitching (body : List Byte)
  /-- R84: Replaces the five link parameters at once, each taking effect as R85 gives. -/
  | setLinkParameters (body : List Byte)
  /-- R86: Returns a leg's state and counters, and clears the counters when the clear mark is set. -/
  | readLeg (body : List Byte)
  /-- R89: Creates an element record under a parent or as a leg root, in the state R90 gives. -/
  | enrolElement (body : List Byte)
  /-- R91: Removes a childless element that feeds no tap and ends its standing conditions. -/
  | retireElement (body : List Byte)
  /-- R105: Returns an element record. -/
  | readElement (body : List Byte)
  /-- R106: Returns the lowest-index element at or above a start index whose state is in the given set. -/
  | nextElement (body : List Byte)
  /-- R104: Replaces the miss threshold and level limit, taking elements DOWN and retesting ELEMENT_LEVEL at once. -/
  | setTopologyParameters (body : List Byte)
  /-- R112: Selects or deselects the REF input, moving the reference state. -/
  | setReference (body : List Byte)
  /-- R116: Sets the minute counter and second count in LOADING without announcing any boundary. -/
  | setClock (body : List Byte)
  /-- R117: Sets the second count alone, lengthening or shortening the current minute. -/
  | adjustClock (body : List Byte)
  /-- R119: Returns the clock, reference state, holdover stamp, pending boundary and pulse counters. -/
  | readClock (body : List Byte)
  /-- R134: Adds to a PREPAID balance with clamping, restoring a LAPSED record whose balance is now above 0. -/
  | topUp (body : List Byte)
  /-- R135: Lowers an ACCOUNT record's owed, restoring a LAPSED record now at or below its ceiling. -/
  | postPayment (body : List Byte)
  /-- R136: Posts a signed adjustment to the period figures, and for a PREPAID record to the balance at once. -/
  | postAdjustment (body : List Byte)
  /-- R137: Returns the statement waiting in the slot and empties the slot. -/
  | collectStatement (body : List Byte)
  /-- R138: Replaces the next-close minute in LIVE unless a close is under way. -/
  | setNextClose (body : List Byte)
  /-- R139: Replaces the period length and the outage credit threshold. -/
  | setBillingParameters (body : List Byte)
  /-- R140: Returns the period state, the parameters, the slipped-minute count and the pass in flight. -/
  | readBilling (body : List Byte)
  /-- R143: Creates a SCHEDULED pay event on a PAY slot with a non-overlapping window. -/
  | defineEvent (body : List Byte)
  /-- R150: Makes an event CANCELLED, removing and refunding every purchase of it within the request. -/
  | cancelEvent (body : List Byte)
  /-- R151: Removes an ENDED or CANCELLED event whose end walk is not in flight. -/
  | removeEvent (body : List Byte)
  /-- R155: Returns an event record. -/
  | readEvent (body : List Byte)
  /-- R155: Returns the event with the lowest id above the one given. -/
  | nextEvent (body : List Byte)
  /-- R147: Tests and appends an event to a purchase list, charging the price unless the restore mark is set. -/
  | purchase (body : List Byte)
  /-- R149: Removes a purchase of a SCHEDULED event and refunds its price. -/
  | withdrawPurchase (body : List Byte)
  /-- R154: Replaces the dark refund threshold. -/
  | setEventParameters (body : List Byte)
  /-- R159: Reconfigures a contact input's role, slot, sense and debounce, ending and re-raising its alarms. -/
  | configureInput (body : List Byte)
  /-- R160: Returns all 32 contact input records. -/
  | readInputs (body : List Byte)
  /-- R166: Returns the first presentable alarm entry, making a condition REPORTED and removing an occurrence. -/
  | fetchAlarm (body : List Byte)
  /-- R167: Acknowledges an alarm entry, making it ACKED or removing it. -/
  | acknowledgeAlarm (body : List Byte)
  /-- R170: Returns one alarm entry by kind and subject. -/
  | readAlarm (body : List Byte)
  /-- R170: Returns the entry following a kind and subject in rank and subject order. -/
  | nextAlarm (body : List Byte)
  /-- R170: Returns the table counts, the mask, the levels and the sequence counter. -/
  | readAlarmUnit (body : List Byte)
  /-- R168: Replaces a kind's level, removing all its entries at level 0. -/
  | setAlarmLevel (body : List Byte)
  /-- R169: Replaces the mask level, and presentation and ATTN follow at once. -/
  | setAlarmMask (body : List Byte)
  /-- R109: The crystal second phase reaches 1 s, the second count rises and the pulse mark clears. -/
  | secondEdge
  /-- R110: A rising edge on REF is taken to make or realign a second edge, or is ignored, by the phase and the pulse mark. -/
  | referencePulse
  /-- R111: The loss timer reaches 3 s, holdover begins and REF_LOST is raised. -/
  | lossTimerExpiry
  /-- R31: The Line-Up Table takes a minute boundary and deals with every staged change that falls due. -/
  | lineupTakesBoundary
  /-- R144: The Event Table takes a minute boundary and counts dark minutes, opens events and ends events. -/
  | eventTableTakesBoundary
  /-- R59: The Tap Table takes a minute boundary and lowers every running silent-retry countdown by one. -/
  | tapTableTakesBoundary
  /-- R59: A countdown reaching zero is removed and makes a bulk need for the SILENT tap. -/
  | silentCountdownExpiry (tap : Nat)
  /-- R123: A metering or close pass visits one subscriber index and meters, draws, checks outage and closes the record's period as due. -/
  | meteringVisit
  /-- R145: An event's end walk visits one subscriber index, removes the event from its purchase list and refunds when refund is due. -/
  | endWalkVisit (event : Nat)
  /-- R64: A sweep visits one tap index, clears it for a clearing scope and makes a bulk need when any port is unconfirmed or differs. -/
  | sweepVisit
  /-- R72: An idle leg in LIVE and NORMAL takes a priority poll, an urgent tap, a routine poll or a bulk tap, and starts transmitting. -/
  | legTakesWork (leg : Nat)
  /-- R67: The last character's stop bit is sent, TXEN is lowered and the leg begins AWAITING the reply. -/
  | frameTransmitted (leg : Nat)
  /-- R70: A frame assembled while AWAITING is judged as a frame-check failure, a discard, a wrong kind or a valid reply. Some characters that arrive on RX, in their order: the receiver takes them one by one (R69), after those it holds of a frame partly assembled. -/
  | replyFrameReceived (leg : Nat) (chars : List Byte)
  /-- R71: A try's reply timeout runs out and the try ends without a valid reply. -/
  | tryTimerExpiry (leg : Nat)
  /-- R74: A leg's poll cycle timer runs out, setting the poll-due flag of every UP, SUSPECT and DOWN element on the leg and reloading the timer. -/
  | pollCycleExpiry (leg : Nat)
  /-- R79: RX held at space for longer than one character time starts a return fault, raises LEG_RETURN_FAULT and abandons any awaited transaction. How long, in microseconds outside TRANSMITTING, RX has now been at space, and whether that goes on without a break from the measurement in progress. -/
  | returnFaultBegins (leg : Nat) (space : Measurement)
  /-- R79: RX at mark for one character time ends the return fault and ends LEG_RETURN_FAULT. How long, in microseconds outside TRANSMITTING, RX has now been at mark, and whether that goes on without a break from the measurement in progress. -/
  | returnFaultEnds (leg : Nat) (mark : Measurement)
  /-- R157: A contact input pin changes level, starting, restarting or cancelling its debounce timer. The input and the level its pin now has. -/
  | pinLevelChange (input : Nat) (level : Level)
  /-- R157: The debounce timer reaches the debounce time, the debounced level takes the pin level and the change is stamped and acted on. -/
  | debounceTimerExpiry (input : Nat)
  /-- R83: A leg that was TRANSMITTING when Clear Store was served finishes the character in progress and lowers TXEN at the end of that character's stop bit, sending nothing more of the frame. The leg, and how many characters of the frame it has sent by then. -/
  | frameCutShort (cut : FrameCut)
  deriving DecidableEq, Repr

end Sys2Proof
end

