-- ==== Sys2Proof/Decode.lean ====
section
/-! DEFINITION. How a command is spelled. The table of operations gives no row any bits, so no word spells a command; a request is spelled by the
bytes of its select on the SPI link (R171, section 11.2), which this file reads and writes. -/

namespace Sys2Proof

/-- The table gives no row bits: no word spells a command (log 2). -/
def decodeTableWord (_nbits _w : Nat) : Option Instr := none

/-- Section 11.2: the command of a complete request frame of known code, its body as received. -/
def requestOf (code : Nat) (body : List Byte) : Option Instr :=
  match code with
  | 0x01 => some (.goLive body)
  | 0x02 => some (.clearStore body)
  | 0x03 => some (.readStatus body)
  | 0x10 => some (.enrol body)
  | 0x11 => some (.readSubscriber body)
  | 0x12 => some (.nextSubscriber body)
  | 0x13 => some (.nextChangedSubscriber body)
  | 0x14 => some (.changeTiers body)
  | 0x15 => some (.bind body)
  | 0x16 => some (.move body)
  | 0x17 => some (.unbind body)
  | 0x18 => some (.activate body)
  | 0x19 => some (.suspend body)
  | 0x1A => some (.resume body)
  | 0x1B => some (.setCeiling body)
  | 0x1C => some (.closeSubscriber body)
  | 0x1D => some (.retireSubscriber body)
  | 0x20 => some (.defineChannel body)
  | 0x21 => some (.stageChannelChange body)
  | 0x22 => some (.withdrawStagedChange body)
  | 0x23 => some (.readChannel body)
  | 0x24 => some (.defineTier body)
  | 0x25 => some (.stageTierRate body)
  | 0x26 => some (.readTier body)
  | 0x30 => some (.enrolTap body)
  | 0x31 => some (.retireTap body)
  | 0x32 => some (.readTap body)
  | 0x33 => some (.resendTap body)
  | 0x34 => some (.readSwitching body)
  | 0x38 => some (.setLinkParameters body)
  | 0x39 => some (.readLeg body)
  | 0x40 => some (.enrolElement body)
  | 0x41 => some (.retireElement body)
  | 0x42 => some (.readElement body)
  | 0x43 => some (.nextElement body)
  | 0x44 => some (.setTopologyParameters body)
  | 0x48 => some (.setReference body)
  | 0x49 => some (.setClock body)
  | 0x4A => some (.adjustClock body)
  | 0x4B => some (.readClock body)
  | 0x50 => some (.topUp body)
  | 0x51 => some (.postPayment body)
  | 0x52 => some (.postAdjustment body)
  | 0x53 => some (.collectStatement body)
  | 0x54 => some (.setNextClose body)
  | 0x55 => some (.setBillingParameters body)
  | 0x56 => some (.readBilling body)
  | 0x60 => some (.defineEvent body)
  | 0x61 => some (.cancelEvent body)
  | 0x62 => some (.removeEvent body)
  | 0x63 => some (.readEvent body)
  | 0x64 => some (.nextEvent body)
  | 0x65 => some (.purchase body)
  | 0x66 => some (.withdrawPurchase body)
  | 0x67 => some (.setEventParameters body)
  | 0x70 => some (.configureInput body)
  | 0x71 => some (.readInputs body)
  | 0x72 => some (.fetchAlarm body)
  | 0x73 => some (.acknowledgeAlarm body)
  | 0x74 => some (.readAlarm body)
  | 0x75 => some (.nextAlarm body)
  | 0x76 => some (.readAlarmUnit body)
  | 0x77 => some (.setAlarmLevel body)
  | 0x78 => some (.setAlarmMask body)
  | _ => none

/-- R171, R175: a first byte that is no request code the part knows: neither the read code 0x00 nor in the request code table. -/
def unknownCode (code : Byte) : Bool := code.toNat ≠ 0 && (requestOf code.toNat []).isNone

/-- R171: a request frame that is complete: the bytes after its body are ignored. A code the part does not know is framed all the same. -/
def commandOfFrame (code : Byte) (body : List Byte) : Instr := (requestOf code.toNat body).getD (.unknownRequest code body)

/-- R171, R172, R174: what the bytes of one select are: a read select with the number of bytes clocked after the read code, a request frame, or a
partial frame. -/
def commandOfSelect (bytes : List Byte) : Instr :=
  match bytes with
  | code :: rest =>
    if code = 0#8 then .readSelect rest.length
    else match rest with
      | length :: rest =>
        if length.toNat ≤ rest.length then commandOfFrame code (rest.take length.toNat) else .partialFrameDiscarded bytes
      | [] => .partialFrameDiscarded bytes
  | [] => .partialFrameDiscarded bytes

/-- Section 11.2: a request frame: code, body length, body. -/
def frameOf (code : Byte) (body : List Byte) : List Byte := code :: BitVec.ofNat 8 body.length :: body

/-- The bytes of the select that carries a command; none for a command that no select carries. A discarded frame is a request frame that arrives
while another is served (R173). -/
def selectOf : Instr → Option (List Byte)
  | .readSelect clocked => some (0#8 :: List.replicate clocked 0#8)
  | .partialFrameDiscarded bytes => some bytes
  | .requestFrameDiscarded code body | .unknownRequest code body => some (frameOf code body)
  | .goLive body => some (frameOf 0x01#8 body)
  | .clearStore body => some (frameOf 0x02#8 body)
  | .readStatus body => some (frameOf 0x03#8 body)
  | .enrol body => some (frameOf 0x10#8 body)
  | .readSubscriber body => some (frameOf 0x11#8 body)
  | .nextSubscriber body => some (frameOf 0x12#8 body)
  | .nextChangedSubscriber body => some (frameOf 0x13#8 body)
  | .changeTiers body => some (frameOf 0x14#8 body)
  | .bind body => some (frameOf 0x15#8 body)
  | .move body => some (frameOf 0x16#8 body)
  | .unbind body => some (frameOf 0x17#8 body)
  | .activate body => some (frameOf 0x18#8 body)
  | .suspend body => some (frameOf 0x19#8 body)
  | .resume body => some (frameOf 0x1A#8 body)
  | .setCeiling body => some (frameOf 0x1B#8 body)
  | .closeSubscriber body => some (frameOf 0x1C#8 body)
  | .retireSubscriber body => some (frameOf 0x1D#8 body)
  | .defineChannel body => some (frameOf 0x20#8 body)
  | .stageChannelChange body => some (frameOf 0x21#8 body)
  | .withdrawStagedChange body => some (frameOf 0x22#8 body)
  | .readChannel body => some (frameOf 0x23#8 body)
  | .defineTier body => some (frameOf 0x24#8 body)
  | .stageTierRate body => some (frameOf 0x25#8 body)
  | .readTier body => some (frameOf 0x26#8 body)
  | .enrolTap body => some (frameOf 0x30#8 body)
  | .retireTap body => some (frameOf 0x31#8 body)
  | .readTap body => some (frameOf 0x32#8 body)
  | .resendTap body => some (frameOf 0x33#8 body)
  | .readSwitching body => some (frameOf 0x34#8 body)
  | .setLinkParameters body => some (frameOf 0x38#8 body)
  | .readLeg body => some (frameOf 0x39#8 body)
  | .enrolElement body => some (frameOf 0x40#8 body)
  | .retireElement body => some (frameOf 0x41#8 body)
  | .readElement body => some (frameOf 0x42#8 body)
  | .nextElement body => some (frameOf 0x43#8 body)
  | .setTopologyParameters body => some (frameOf 0x44#8 body)
  | .setReference body => some (frameOf 0x48#8 body)
  | .setClock body => some (frameOf 0x49#8 body)
  | .adjustClock body => some (frameOf 0x4A#8 body)
  | .readClock body => some (frameOf 0x4B#8 body)
  | .topUp body => some (frameOf 0x50#8 body)
  | .postPayment body => some (frameOf 0x51#8 body)
  | .postAdjustment body => some (frameOf 0x52#8 body)
  | .collectStatement body => some (frameOf 0x53#8 body)
  | .setNextClose body => some (frameOf 0x54#8 body)
  | .setBillingParameters body => some (frameOf 0x55#8 body)
  | .readBilling body => some (frameOf 0x56#8 body)
  | .defineEvent body => some (frameOf 0x60#8 body)
  | .cancelEvent body => some (frameOf 0x61#8 body)
  | .removeEvent body => some (frameOf 0x62#8 body)
  | .readEvent body => some (frameOf 0x63#8 body)
  | .nextEvent body => some (frameOf 0x64#8 body)
  | .purchase body => some (frameOf 0x65#8 body)
  | .withdrawPurchase body => some (frameOf 0x66#8 body)
  | .setEventParameters body => some (frameOf 0x67#8 body)
  | .configureInput body => some (frameOf 0x70#8 body)
  | .readInputs body => some (frameOf 0x71#8 body)
  | .fetchAlarm body => some (frameOf 0x72#8 body)
  | .acknowledgeAlarm body => some (frameOf 0x73#8 body)
  | .readAlarm body => some (frameOf 0x74#8 body)
  | .nextAlarm body => some (frameOf 0x75#8 body)
  | .readAlarmUnit body => some (frameOf 0x76#8 body)
  | .setAlarmLevel body => some (frameOf 0x77#8 body)
  | .setAlarmMask body => some (frameOf 0x78#8 body)
  | .hardReset _ | .responseReady | .secondEdge | .referencePulse | .lossTimerExpiry | .lineupTakesBoundary
  | .eventTableTakesBoundary | .tapTableTakesBoundary | .silentCountdownExpiry _ | .meteringVisit | .endWalkVisit _
  | .sweepVisit | .legTakesWork _ | .frameTransmitted _ | .replyFrameReceived _ _ | .tryTimerExpiry _ | .pollCycleExpiry _
  | .returnFaultBegins _ _ | .returnFaultEnds _ _ | .pinLevelChange _ _ | .debounceTimerExpiry _ | .frameCutShort _ => none

end Sys2Proof
end

