-- ==== Sys2Proof/Config.lean ====
section
/-! DEFINITION. What the manual leaves open and the model does not choose: the free values. -/

namespace Sys2Proof.Config

/-- A free choice, the `n`-th one a run makes. It has no body: nothing can be proved about a particular choice. It settles the
two orders the manual leaves open: R161 ("Those raises touch different entries and may reach the table in any order", log 7) and
the order in which Cancel Event takes the purchasers (R150, log 8). -/
opaque freePick : Nat → Nat

end Sys2Proof.Config
end

