-- ==== Sys2Proof/Machine/Table.lean ====
section
/-! DEFINITION. A table of records by number: a list of (number, record) pairs, numbers strictly rising. An unlisted number holds no
record. The subscriber, tap, element, event and alarm tables and the account index are all of this form. -/

namespace Sys2Proof.Machine

/-- A sparse table in its one canonical form (see `Table.wf`). -/
abbrev Table (α : Type) := List (Nat × α)

variable {α : Type}

/-- The record at a number, if there is one. -/
def Table.get? (k : Nat) : Table α → Option α
  | [] => none
  | (i, x) :: t => if i = k then some x else Table.get? k t

/-- Put a record at a number, in its place, replacing the record there. -/
def Table.set (k : Nat) (x : α) : Table α → Table α
  | [] => [(k, x)]
  | (i, y) :: t => if k < i then (k, x) :: (i, y) :: t else if i = k then (k, x) :: t else (i, y) :: Table.set k x t

/-- Remove the record at a number. -/
def Table.erase (k : Nat) (t : Table α) : Table α := t.filter fun p => p.1 != k

/-- Change the record at a number, if there is one. -/
def Table.modify (k : Nat) (f : α → α) (t : Table α) : Table α := t.map fun p => if p.1 = k then (p.1, f p.2) else p

/-- Change every record, given its number. -/
def Table.mapAll (f : Nat → α → α) (t : Table α) : Table α := t.map fun p => (p.1, f p.1 p.2)

/-- The lowest number from `k` up that holds no record, in a table whose numbers are at or above `k`. -/
def Table.freeFrom (k : Nat) : Table α → Nat
  | [] => k
  | (i, _) :: t => if i = k then Table.freeFrom (k + 1) t else k

/-- R1, R43, R87: the lowest index that holds no record. -/
def Table.lowestFree (t : Table α) : Nat := Table.freeFrom 0 t

/-- The first record whose number is above `k`. -/
def Table.above (k : Nat) (t : Table α) : Option (Nat × α) := t.find? fun p => k < p.1

/-- The canonical form: numbers strictly rising. -/
def Table.wf (t : Table α) : Bool := decide ((t.map Prod.fst).Pairwise (· < ·))

end Sys2Proof.Machine
end

