-- ==== Sys2Proof/Machine/State.lean ====
section
/-! DEFINITION. The state of the HE420, block by block as section "The blocks and how they work together" lists them, and the state
after a hard reset at power-on. -/

namespace Sys2Proof.Machine

/-! ## Values shared by the blocks -/

/-- R118: the minute counter and the second count as a block read them. -/
structure Stamp where
  minute : Nat
  second : Nat
  deriving DecidableEq, Repr

/-- Section 10.3. -/
inductive DeviceMode where
  | loading
  | live
  deriving DecidableEq, Repr

/-- The status codes of "About this manual", in the order of section 11.2. -/
inductive Status where
  | ok
  | unknownRequest
  | badLength
  | badField
  | notFound
  | exists_
  | full
  | badState
  | wrongMode
  | funds
  | conflict
  | busy
  deriving DecidableEq, Repr

/-- A response frame: its status and its body (the length is the body's). -/
structure Response where
  status : Status
  body : List Byte
  deriving DecidableEq, Repr

/-! ## Request Port (chapter 10) -/

/-- R173. -/
inductive PortState where
  | idle
  | serving
  | waiting
  deriving DecidableEq, Repr

/-- Section 10.1, but for the device mode. `answer` is the model's own: the owner's answer between the service of a request and
RESPONSE_READY (log 6). `miso` records the bytes shifted out in the last select (log 25, log 30). -/
structure Port where
  state : PortState
  requestBuffer : List Byte
  responseBuffer : Option Response
  overrun : Bool
  answer : Option Response
  selectIgnored : Bool
  miso : List Byte
  deriving DecidableEq, Repr

/-! ## Subscriber Table (chapter 1; the billing fields of R121) -/

/-- Section 1.2. -/
inductive SubState where
  | new
  | active
  | suspended
  | lapsed
  | closed
  deriving DecidableEq, Repr

/-- R2: the billing mode with the money fields that mode carries, in cents. It is fixed at Enrol. -/
inductive Purse where
  | prepaid (balance : Nat)
  | account (owed : Int) (ceiling : Nat)
  deriving DecidableEq, Repr

/-- A tap index and a port 1 to 4. -/
structure PortRef where
  tap : Nat
  port : Nat
  deriving DecidableEq, Repr

/-- R121, R125: an outage episode and its pending credit. -/
structure Episode where
  minutes : Nat
  pendingCm : Nat
  pendingMin : Nat
  deriving DecidableEq, Repr

/-- R131: a statement. `after` is the balance-after or owed-after. -/
structure Statement where
  firstPeriod : Nat
  lastPeriod : Nat
  spanned : Nat
  tier : Nat
  credit : Nat
  event : Nat
  refund : Nat
  adjustment : Int
  net : Int
  after : Int
  chargedMin : Nat
  creditedMin : Nat
  final : Bool
  deriving DecidableEq, Repr

/-- Section 1.1 and R121. -/
structure Subscriber where
  account : Nat
  tapPort : Option PortRef
  state : SubState
  tiers : BitVec 16
  purse : Purse
  chargeAcc : Nat
  tierCarry : Nat
  creditAcc : Nat
  creditRem : Nat
  drawn : Nat
  returned : Nat
  eventCents : Nat
  refundCents : Nat
  adjCents : Int
  chargedMin : Nat
  creditedMin : Nat
  episode : Option Episode
  purchases : List Nat
  slot : Option Statement
  changed : Bool
  deriving DecidableEq, Repr

/-! ## Line-Up Table (chapter 2) -/

/-- Section 2.1. -/
inductive SlotState where
  | unused
  | carried
  deriving DecidableEq, Repr

/-- A channel definition: the first five fields of a slot. -/
structure Definition where
  state : SlotState
  label : List Byte
  tier : Option Nat
  pay : Bool
  lifeline : Bool
  deriving DecidableEq, Repr

/-- A staged change and its effective minute. -/
structure Staged where
  defn : Definition
  effective : Nat
  deriving DecidableEq, Repr

/-- The last stage result, with the minute the change fell due. -/
inductive StageResult where
  | none
  | applied (minute : Nat)
  | discarded (minute : Nat)
  deriving DecidableEq, Repr

/-- Section 2.1: a channel slot. -/
structure Slot where
  current : Definition
  staged : Option Staged
  dark : Bool
  lastStage : StageResult
  deriving DecidableEq, Repr

/-- Section 2.3: a tier. -/
structure Tier where
  rate : Nat
  staged : Option Nat
  label : List Byte
  deriving DecidableEq, Repr

/-! ## Event Table (chapter 8) -/

/-- Section 8.1. -/
inductive EventState where
  | scheduled
  | opened
  | ended
  | cancelled
  deriving DecidableEq, Repr

/-- An end walk: the next index to visit and whether refund is due. `settled` is the model's own: the indexes of the records from whose purchase list
the walk has taken the event, by which R153 tells a former purchaser's Withdraw Purchase from any other (log 39). -/
structure EndWalk where
  next : Nat
  refundDue : Bool
  settled : List Nat
  deriving DecidableEq, Repr

/-- Section 8.1: a pay event. Its id is its number in the table. -/
structure EventRec where
  slot : Nat
  openMinute : Nat
  closeMinute : Nat
  price : Nat
  cutoff : Nat
  state : EventState
  dark : Nat
  count : Nat
  walk : Option EndWalk
  deriving DecidableEq, Repr

/-! ## Tap Table and Switching (chapter 3) -/

/-- The two switch queues, and the two kinds of need. -/
inductive QueueKind where
  | urgent
  | bulk
  deriving DecidableEq, Repr

/-- A port setting. An off setting has an empty pass set, so equality of settings is the equality R64 gives. Bit `n` of a pass set is
channel slot `n`. -/
inductive Setting where
  | off
  | on (pass : BitVec 96)
  deriving DecidableEq, Repr

/-- One port of a tap. -/
structure TapPort where
  subscriber : Option Nat
  confirmed : Option Setting
  deriving DecidableEq, Repr

/-- Section 3.1. -/
inductive TapState where
  | inService
  | silent
  deriving DecidableEq, Repr

/-- Section 3.1. -/
inductive Lid where
  | closed
  | opened
  deriving DecidableEq, Repr

/-- Section 3.1: a tap. `origin` is the origin queue, held exactly while a command for the tap is in flight, so it is the in-flight
flag too. The queue membership is computed from the two queues. -/
structure Tap where
  address : Nat
  feeding : Nat
  ports : List TapPort
  state : TapState
  countdown : Option Nat
  lid : Lid
  origin : Option QueueKind
  dirty : Bool
  deriving DecidableEq, Repr

/-- R62: a sweep request: scope ALL, or the subtree of an element. -/
inductive SweepRequest where
  | all
  | subtree (element : Nat)
  deriving DecidableEq, Repr

/-- R62, R63: what a sweep covers, and what the pending scope set holds when it is not empty: ALL, or 1 to 8 subtrees of distinct elements. -/
inductive Scope where
  | all
  | subtrees (elements : List Nat)
  deriving DecidableEq, Repr

/-- A sweep in flight and the next index it visits. -/
structure Sweep where
  scope : Scope
  next : Nat
  deriving DecidableEq, Repr

/-! ## Plant Link Controller (chapter 4) -/

/-- R66. -/
inductive Activity where
  | idle
  | transmitting
  | awaiting
  deriving DecidableEq, Repr

/-- The three leg bit rates. -/
inductive Rate where
  | r9600
  | r19200
  | r38400
  deriving DecidableEq, Repr

/-- The work a leg has taken. `built` are the built settings of ports 1 to 4 (R52). `retired` is the model's own: the element polled has
been retired while its poll was in flight, so the outcome is handed to no one (R77, log 26). -/
inductive Work where
  | tap (index : Nat) (tries : Nat) (origin : QueueKind) (built : List Setting)
  | poll (element : Nat) (priority : Bool) (retired : Bool)
  deriving DecidableEq, Repr

/-- R76, R77: a transaction in flight and the field address its frames carry. -/
structure Transaction where
  work : Work
  address : Nat
  deriving DecidableEq, Repr

/-- R86: the counters of a leg. -/
structure LegCounters where
  transmitted : Nat
  valid : Nat
  expired : Nat
  checkFailures : Nat
  discarded : Nat
  abandoned : Nat
  faults : Nat
  deriving DecidableEq, Repr

/-- R66: a leg controller. The try timer and the poll cycle timer are in ms. `fault` is present in return-fault state FAULT. `frame` holds
the characters of the frame put on TX last, cut where Clear Store cut it (R83, log 30). `rx` holds the characters of a reply frame partly assembled, from its sync character on (R69).
`measured` is the return-fault measurement in progress (R79): the microseconds RX has been found without a break at space while NORMAL, at mark
while in FAULT. -/
structure Leg where
  activity : Activity
  txn : Option Transaction
  tag : Nat
  tryTimer : Nat
  fault : Option Stamp
  rate : Rate
  pollTimer : Option Nat
  counters : LegCounters
  txen : Bool
  frame : List Byte
  rx : List Byte
  measured : Nat
  deriving DecidableEq, Repr

/-- Section 4.6: the link parameters. -/
structure LinkParams where
  rate : Rate
  replyTimeout : Nat
  retryLimit : Nat
  pollCycle : Nat
  silentInterval : Nat
  deriving DecidableEq, Repr

/-! ## Plant Topology Table (chapter 5) -/

/-- Section 5.2. -/
inductive ElementState where
  | up
  | suspect
  | down
  | shadowed
  | verify
  deriving DecidableEq, Repr

/-- Section 5.1. -/
inductive Supply where
  | mains
  | battery
  | batteryLow
  | unknown
  deriving DecidableEq, Repr

/-- Section 5.1: an element. `level` is in tenths of a dB. -/
structure Element where
  address : Nat
  parent : Option Nat
  leg : Nat
  depth : Nat
  state : ElementState
  miss : Nat
  since : Option Nat
  supply : Supply
  level : Option Int
  pollDue : Bool
  priority : Bool
  deriving DecidableEq, Repr

/-- R104; the level limit is in tenths of a dB. -/
structure TopoParams where
  missThreshold : Nat
  levelLimit : Nat
  deriving DecidableEq, Repr

/-! ## Time Base (chapter 6) -/

/-- R111. -/
inductive RefState where
  | notSelected
  | acquiring
  | tracking
  | holdover
  deriving DecidableEq, Repr

/-- A boundary held by the Time Base: the minute to be metered and, where it carries the close mark, the close minute (R115). -/
structure HeldBoundary where
  minute : Nat
  close : Option Nat
  deriving DecidableEq, Repr

/-- Section 6.1. The second phase and the loss timer are in ms. -/
structure TimeBase where
  minute : Nat
  second : Nat
  phase : Nat
  pulseMark : Bool
  ref : RefState
  lossTimer : Option Nat
  holdover : Option Stamp
  pending : Option HeldBoundary
  taken : Nat
  ignored : Nat
  holdovers : Nat
  deriving DecidableEq, Repr

/-- The boundaries announced to the three blocks that take them as commands of their own, oldest first, and not yet taken (R113; the
model's own, log 5). -/
structure Announced where
  lineUp : List Nat
  events : List Nat
  taps : List Nat
  deriving DecidableEq, Repr

/-! ## Billing Unit (chapter 7) -/

/-- Section 7.1: a pass in flight; it is a close pass when `close` holds the close minute. -/
structure Pass where
  minute : Nat
  next : Nat
  close : Option Nat
  deriving DecidableEq, Repr

/-- Section 7.1. -/
structure Billing where
  period : Nat
  start : Option Nat
  nextClose : Option Nat
  length : Nat
  threshold : Nat
  slipped : Nat
  pass : Option Pass
  deriving DecidableEq, Repr

/-! ## Contact Inputs (chapter 9) -/

/-- Section 9.1. -/
inductive Role where
  | none
  | plain
  | carrier
  deriving DecidableEq, Repr

/-- Section 9.1. -/
inductive Sense where
  | rising
  | falling
  | both
  | levelHigh
  | levelLow
  deriving DecidableEq, Repr

/-- Section 9.1: a contact input; times in ms. -/
structure Input where
  role : Role
  slot : Nat
  sense : Sense
  debounce : Nat
  pin : Level
  level : Level
  timer : Option Nat
  stamp : Option Stamp
  standing : Bool
  deriving DecidableEq, Repr

/-! ## Alarm Unit (chapter 9) -/

/-- The fifteen kinds of section 9.2, in rank order. -/
inductive AlarmKind where
  | tableOverflow
  | meterSlip
  | legReturnFault
  | elementDown
  | refLost
  | elementBatteryLow
  | channelDark
  | contact
  | elementOnBattery
  | elementLevel
  | tapSilent
  | tapTamper
  | eventRefund
  | creditChange
  | periodClosed
  deriving DecidableEq, Repr

/-- Section 9.2. -/
inductive AlarmType where
  | condition
  | occurrence
  deriving DecidableEq, Repr

/-- Section 9.3. -/
inductive EntryState where
  | raised
  | reported
  | acked
  | cleared
  deriving DecidableEq, Repr

/-- Section 9.3: an alarm entry. -/
structure Entry where
  kind : AlarmKind
  subject : Nat
  type : AlarmType
  state : EntryState
  repeats : Nat
  seq : Nat
  first : Stamp
  last : Stamp
  deriving DecidableEq, Repr

/-- R161. The table is kept by kind rank and subject; `levels` are the levels of the fifteen kinds in rank order. -/
structure AlarmUnit where
  table : Table Entry
  overflow : Option Entry
  levels : List Nat
  mask : Nat
  seq : Nat
  deriving DecidableEq, Repr

/-! ## The whole part -/

/-- The state of the HE420 and the queue of commands that wait. `free` counts the free choices made (Config.freePick, log 7). -/
structure State where
  port : Port
  mode : DeviceMode
  subs : Table Subscriber
  accounts : Table Nat
  slots : List Slot
  tiers : List Tier
  events : Table EventRec
  darkThreshold : Nat
  taps : Table Tap
  urgent : List Nat
  bulk : List Nat
  sweep : Option Sweep
  scopes : Option Scope
  legs : List Leg
  link : LinkParams
  elements : Table Element
  topo : TopoParams
  clock : TimeBase
  announced : Announced
  billing : Billing
  inputs : List Input
  alarms : AlarmUnit
  free : Nat
  pending : List Instr
  deriving DecidableEq, Repr

/-- No command of the HE420 stops the part: the spec gives every row an effect, so no fault is ever raised. -/
inductive Fault where
  deriving DecidableEq, Repr

/-- Refusals. -/
inductive Refusal where
  /-- Raised by `exec` for a command without a meaning (safe: the machine stops). Every command of this model has its meaning. -/
  | notModelled (mnemonic : String)
  deriving DecidableEq, Repr

/-- What a step of this machine answers. -/
abbrev Out := Host.Outcome State Fault Refusal

/-! ## The values after a hard reset -/

/-- R25, R38: a label of eight spaces. -/
def blankLabel : List Byte := List.replicate 8 0x20#8

/-- R176. At power-on the select is taken to be deasserted, on which the manual is silent (the model's choice, log 46). -/
def Port.reset : Port := ⟨.idle, [], none, false, none, false, []⟩

/-- R25. -/
def Slot.reset : Slot := ⟨⟨.unused, blankLabel, none, false, false⟩, none, false, .none⟩

/-- R38. -/
def Tier.reset : Tier := ⟨0, none, blankLabel⟩

/-- R66. -/
def Leg.reset : Leg := ⟨.idle, none, 0, 0, none, .r19200, none, ⟨0, 0, 0, 0, 0, 0, 0⟩, false, [], [], 0⟩

/-- Section 4.6: the defaults. -/
def LinkParams.reset : LinkParams := ⟨.r19200, 150, 2, 30, 10⟩

/-- R108. -/
def TimeBase.reset : TimeBase := ⟨0, 0, 0, false, .notSelected, none, none, none, 0, 0, 0⟩

/-- R120. -/
def Billing.reset : Billing := ⟨0, none, none, 43200, 120, 0, none⟩

/-- R156, for an input whose pin is at `pin` as the part leaves reset. -/
def Input.reset (pin : Level) : Input := ⟨.none, 0, .levelHigh, 100, pin, pin, none, none, false⟩

/-- R161, with the default levels of section 9.2 in rank order. -/
def AlarmUnit.reset : AlarmUnit := ⟨[], none, [7, 7, 6, 6, 4, 5, 5, 4, 3, 3, 3, 2, 2, 1, 2], 0, 0⟩

/-- The part right after power-on: every block in its reset state (R176). The contact pins are high, as an open contact reads
(section 11.5; DESIGN CHOICE, log 12), and no command waits. -/
def State.reset : State where
  port := Port.reset
  mode := .loading
  subs := []
  accounts := []
  slots := List.replicate 96 Slot.reset
  tiers := List.replicate 16 Tier.reset
  events := []
  darkThreshold := 10
  taps := []
  urgent := []
  bulk := []
  sweep := none
  scopes := none
  legs := List.replicate 4 Leg.reset
  link := LinkParams.reset
  elements := []
  topo := ⟨3, 30⟩
  clock := TimeBase.reset
  announced := ⟨[], [], []⟩
  billing := Billing.reset
  inputs := List.replicate 32 (Input.reset .high)
  alarms := AlarmUnit.reset
  free := 0
  pending := []

end Sys2Proof.Machine
end

