-- ==== Sys2Proof/Machine/Operands.lean ====
section
/-! DEFINITION. The fields of request and response bodies and of leg frames (chapter 11): how a field is read from the bytes of a body,
and how the part writes one. -/

namespace Sys2Proof.Machine

/-! ## Reading fields (R180: most significant byte first) -/

/-- The byte at an offset, as a number; 0 past the end. -/
def u8 (b : List Byte) (at_ : Nat) : Nat := (b.getD at_ 0#8).toNat

/-- Two bytes. -/
def u16 (b : List Byte) (at_ : Nat) : Nat := u8 b at_ * 256 + u8 b (at_ + 1)

/-- Four bytes. -/
def u32 (b : List Byte) (at_ : Nat) : Nat := u16 b at_ * 65536 + u16 b (at_ + 2)

/-- Four bytes in two's complement. -/
def i32 (b : List Byte) (at_ : Nat) : Int := (BitVec.ofNat 32 (u32 b at_)).toInt

/-- A flag: set when the byte is not 0x00. -/
def flagAt (b : List Byte) (at_ : Nat) : Bool := u8 b at_ != 0

/-- Eight bytes of label. -/
def labelAt (b : List Byte) (at_ : Nat) : List Byte := (b.drop at_).take 8

/-- A tier set: bit t of the 16-bit value is tier t. -/
def tiersAt (b : List Byte) (at_ : Nat) : BitVec 16 := BitVec.ofNat 16 (u16 b at_)

/-! ## Enumerations (R180: coded in the order the owning chapter lists the values, from 0x00) -/

/-- Section 1.2. -/
def subStateOf : Nat → Option SubState
  | 0 => some .new | 1 => some .active | 2 => some .suspended | 3 => some .lapsed | 4 => some .closed | _ => none

/-- R180. -/
def SubState.code : SubState → Nat
  | .new => 0 | .active => 1 | .suspended => 2 | .lapsed => 3 | .closed => 4

/-- R180: PREPAID 0x00, ACCOUNT 0x01. -/
def Purse.modeCode : Purse → Nat
  | .prepaid _ => 0 | .account _ _ => 1

/-- Section 2.1. -/
def slotStateOf : Nat → Option SlotState
  | 0 => some .unused | 1 => some .carried | _ => none

/-- Section 2.1. -/
def SlotState.code : SlotState → Nat
  | .unused => 0 | .carried => 1

/-- R180: 0x00 to 0x0F, or 0xFF for NONE; anything else is outside the field's range. -/
def requiredTierOf (n : Nat) : Option (Option Nat) :=
  if n ≤ 15 then some (some n) else if n = 255 then some none else none

/-- R180: leg bit rate. -/
def rateOf : Nat → Option Rate
  | 0 => some .r9600 | 1 => some .r19200 | 2 => some .r38400 | _ => none

/-- R180: leg bit rate. -/
def Rate.code : Rate → Nat
  | .r9600 => 0 | .r19200 => 1 | .r38400 => 2

/-- Section 4.6: bits per second. -/
def Rate.bps : Rate → Nat
  | .r9600 => 9600 | .r19200 => 19200 | .r38400 => 38400

/-- Section 9.1. -/
def roleOf : Nat → Option Role
  | 0 => some .none | 1 => some .plain | 2 => some .carrier | _ => none

/-- Section 9.1. -/
def Role.code : Role → Nat
  | .none => 0 | .plain => 1 | .carrier => 2

/-- Section 9.1. -/
def senseOf : Nat → Option Sense
  | 0 => some .rising | 1 => some .falling | 2 => some .both | 3 => some .levelHigh | 4 => some .levelLow | _ => none

/-- Section 9.1. -/
def Sense.code : Sense → Nat
  | .rising => 0 | .falling => 1 | .both => 2 | .levelHigh => 3 | .levelLow => 4

/-- Section 9.1 lists high before low (log 32). -/
def levelCode : Level → Nat
  | .high => 0 | .low => 1

/-- Section 10.3. -/
def DeviceMode.code : DeviceMode → Nat
  | .loading => 0 | .live => 1

/-- Section 3.1. -/
def TapState.code : TapState → Nat
  | .inService => 0 | .silent => 1

/-- Section 3.1. -/
def Lid.code : Lid → Nat
  | .closed => 0 | .opened => 1

/-- Section 3.1: queue membership NONE, URGENT, BULK. -/
def membershipCode : Option QueueKind → Nat
  | none => 0 | some .urgent => 1 | some .bulk => 2

/-- Section 3.1: origin queue URGENT, BULK. -/
def QueueKind.code : QueueKind → Nat
  | .urgent => 0 | .bulk => 1

/-- R66. -/
def Activity.code : Activity → Nat
  | .idle => 0 | .transmitting => 1 | .awaiting => 2

/-- Section 5.1. -/
def ElementState.code : ElementState → Nat
  | .up => 0 | .suspect => 1 | .down => 2 | .shadowed => 3 | .verify => 4

/-- Section 5.1. -/
def Supply.code : Supply → Nat
  | .mains => 0 | .battery => 1 | .batteryLow => 2 | .unknown => 3

/-- R111. -/
def RefState.code : RefState → Nat
  | .notSelected => 0 | .acquiring => 1 | .tracking => 2 | .holdover => 3

/-- Section 8.1. -/
def EventState.code : EventState → Nat
  | .scheduled => 0 | .opened => 1 | .ended => 2 | .cancelled => 3

/-- Section 9.2: the rank of a kind, 1 to 15. -/
def AlarmKind.rank : AlarmKind → Nat
  | .tableOverflow => 1 | .meterSlip => 2 | .legReturnFault => 3 | .elementDown => 4 | .refLost => 5
  | .elementBatteryLow => 6 | .channelDark => 7 | .contact => 8 | .elementOnBattery => 9 | .elementLevel => 10
  | .tapSilent => 11 | .tapTamper => 12 | .eventRefund => 13 | .creditChange => 14 | .periodClosed => 15

/-- Section 9.2: the kind of a rank. -/
def kindOfRank : Nat → Option AlarmKind
  | 1 => some .tableOverflow | 2 => some .meterSlip | 3 => some .legReturnFault | 4 => some .elementDown
  | 5 => some .refLost | 6 => some .elementBatteryLow | 7 => some .channelDark | 8 => some .contact
  | 9 => some .elementOnBattery | 10 => some .elementLevel | 11 => some .tapSilent | 12 => some .tapTamper
  | 13 => some .eventRefund | 14 => some .creditChange | 15 => some .periodClosed | _ => none

/-- The code of a kind in a response body: the kinds in listed order, from 0x00 (R180; log 10). -/
def AlarmKind.code (k : AlarmKind) : Nat := k.rank - 1

/-- Section 9.3. -/
def AlarmType.code : AlarmType → Nat
  | .condition => 0 | .occurrence => 1

/-- Section 9.3. -/
def EntryState.code : EntryState → Nat
  | .raised => 0 | .reported => 1 | .acked => 2 | .cleared => 3

/-- Section 11.2: the status byte. -/
def Status.code : Status → Nat
  | .ok => 0x00 | .unknownRequest => 0x01 | .badLength => 0x02 | .badField => 0x03 | .notFound => 0x04 | .exists_ => 0x05
  | .full => 0x06 | .badState => 0x07 | .wrongMode => 0x08 | .funds => 0x09 | .conflict => 0x0A | .busy => 0x0B

/-! ## Writing fields -/

/-- One byte. -/
def w8 (n : Nat) : List Byte := [BitVec.ofNat 8 n]

/-- Two bytes, most significant first. -/
def w16 (n : Nat) : List Byte := w8 (n / 256) ++ w8 n

/-- Three bytes. -/
def w24 (n : Nat) : List Byte := w8 (n / 65536) ++ w16 n

/-- Four bytes. -/
def w32 (n : Nat) : List Byte := w16 (n / 65536) ++ w16 n

/-- Four bytes in two's complement. -/
def wi32 (n : Int) : List Byte := w32 (BitVec.ofInt 32 n).toNat

/-- One byte in two's complement. -/
def wi8 (n : Int) : List Byte := w8 (BitVec.ofInt 8 n).toNat

/-- R180: a flag: 0x00 when clear. When set it is sent as 0x01, where R180 has any byte but 0x00 (the model's choice, log 9). -/
def wflag (f : Bool) : List Byte := w8 (if f then 1 else 0)

/-- R180: an optional field of `width` value bytes: a presence byte, then the value, at zero when it is absent. -/
def wopt {α : Type} (width : Nat) (f : α → List Byte) : Option α → List Byte
  | none => w8 0 ++ List.replicate width 0#8
  | some x => w8 1 ++ f x

/-- A stamp: minute, then second. -/
def wstamp (t : Stamp) : List Byte := w32 t.minute ++ w8 t.second

/-- R180: the required tier, 0xFF for NONE. -/
def wtier (t : Option Nat) : List Byte := w8 (t.getD 255)

/-- A channel definition: state, label, required tier, channel flags (bit 0 PAY, bit 1 LIFELINE). R180 has bits 2 to 7 of the flags ignored; a response sends
them as 0 (the model's choice, log 9). -/
def wdefinition (d : Definition) : List Byte :=
  w8 d.state.code ++ d.label ++ wtier d.tier ++ w8 ((if d.pay then 1 else 0) + (if d.lifeline then 2 else 0))

/-- The last stage result, in one byte, with its minute, in four: zero bytes for NONE, which has no minute, and no presence byte, since the result itself says
whether there is a minute (the model's choice, log 40). -/
def wstage : StageResult → List Byte
  | .none => w8 0 ++ w32 0
  | .applied m => w8 1 ++ w32 m
  | .discarded m => w8 2 ++ w32 m

/-- R180: a tap port: tap index, then port; port 0x00 means absent. -/
def wtapPort : Option PortRef → List Byte
  | none => w16 0 ++ w8 0
  | some p => w16 p.tap ++ w8 p.port

/-! ## Leg frames (section 11.3, R181) -/

/-- R181: byte `k` of a pass set: slot s in byte s / 8, at bit 7 less the remainder. -/
def passByte (pass : BitVec 96) (k : Nat) : Byte :=
  BitVec.ofNat 8 ((List.range 8).foldl (fun acc j => acc * 2 + (if pass.getLsbD (8 * k + j) then 1 else 0)) 0)

/-- R181: the 12-byte pass set. -/
def passBytes (pass : BitVec 96) : List Byte := (List.range 12).map (passByte pass)

/-- R181: a TAP_SET port block: the on/off byte and the pass set. -/
def settingBytes : Setting → List Byte
  | .off => w8 0 ++ List.replicate 12 0#8
  | .on pass => w8 1 ++ passBytes pass

/-- R181: one bit shifted into the check register, under the generator 0x1021. -/
def crcBit (reg : BitVec 16) (bit : Bool) : BitVec 16 :=
  if reg.getLsbD 15 ^^ bit then (reg <<< 1) ^^^ 0x1021#16 else reg <<< 1

/-- R181: one byte shifted in, most significant bit first. -/
def crcByte (reg : BitVec 16) (b : Byte) : BitVec 16 :=
  [7, 6, 5, 4, 3, 2, 1, 0].foldl (fun r k => crcBit r (b.getLsbD k)) reg

/-- R181: the frame check over some bytes: preset to 0xFFFF, no inversion of the result. -/
def crc16 (bytes : List Byte) : BitVec 16 := bytes.foldl crcByte 0xFFFF#16

/-- Section 11.3: the sync character. -/
def syncChar : Byte := 0x96#8

/-- Section 11.3: the kinds of a leg frame. -/
def tapSetKind : Byte := 0x01#8

/-- Section 11.3. -/
def pollKind : Byte := 0x02#8

/-- Section 11.3: a frame: sync, field address, kind, try tag, length, body, frame check. -/
def legFrame (address : Nat) (kind : Byte) (tag : Nat) (body : List Byte) : List Byte :=
  let checked := w16 address ++ [kind] ++ w8 tag ++ w8 body.length ++ body
  [syncChar] ++ checked ++ w16 (crc16 checked).toNat

/-- What the receiver makes of the characters that follow a sync character (R69): nothing yet, a frame that has failed the frame check, or
a frame that passed it, with its address, kind, try tag and two body bytes. -/
inductive Received where
  | incomplete
  | failed
  | passed (address : Nat) (kind : Byte) (tag : Nat) (b0 b1 : Byte)
  deriving DecidableEq, Repr

/-- R69: the receiver assembles the frame after its sync character. It stops at a kind that is neither TAP_SET nor POLL and at a length that is
not 2, the body length of a reply of either kind. -/
def assemble : List Byte → Received
  | a1 :: a0 :: kind :: rest =>
    if kind ≠ tapSetKind ∧ kind ≠ pollKind then .failed
    else match rest with
      | tag :: len :: rest =>
        if len ≠ 2#8 then .failed
        else match rest with
          | b0 :: b1 :: c1 :: c0 :: _ =>
            if (crc16 [a1, a0, kind, tag, len, b0, b1]).toNat = c1.toNat * 256 + c0.toNat
            then .passed (a1.toNat * 256 + a0.toNat) kind tag.toNat b0 b1
            else .failed
          | _ => .incomplete
      | _ => .incomplete
  | _ => .incomplete

/-- R69: the characters held of a partly assembled frame when one more arrives: while none is held, a character that is not the sync character is
discarded. -/
def taken (held : List Byte) (c : Byte) : List Byte := if held.isEmpty && c != syncChar then [] else held ++ [c]

/-- R69: what the receiver makes of the characters it holds, the sync character first. -/
def assembled : List Byte → Received
  | [] => .incomplete
  | _ :: rest => assemble rest

/-- R181: whether the applied byte reports a port (0 for port 1) applied. -/
def appliedBit (b : Byte) (port : Nat) : Bool := b.getLsbD port

/-- R181: the lid byte. -/
def lidOf (b : Byte) : Lid := if b = 0#8 then .closed else .opened

/-- R181: the supply byte; none for a code that is none of the three. -/
def supplyOf (b : Byte) : Option Supply :=
  if b = 0#8 then some .mains else if b = 1#8 then some .battery else if b = 2#8 then some .batteryLow else none

/-- R103, R181: the level byte, signed tenths of a dB; -128 is stored as -127. -/
def levelOf (b : Byte) : Int := if b.toInt = -128 then -127 else b.toInt

end Sys2Proof.Machine
end

