-- ==== Sys2Proof/Machine/Flags.lean ====
section
/-! DEFINITION. What the state shows: the pins RDY and ATTN, and the views one block takes of another's records (queue membership,
in flight, held, reachability, standing conditions, presentable alarm entries, the live-event test, the desired settings). Nothing
here is stored: each is worked out from the one place its information lives. -/

namespace Sys2Proof.Machine

/-! ## Pins -/

/-- R173: RDY is high while the port state is WAITING. -/
def State.rdy (s : State) : Bool := s.port.state = .waiting

/-- R172, R174: SELn is asserted. A select is one command (log 25), so between commands the only select that can be under way is one that was asserted as
the part left reset and is being ignored. -/
def State.selectAsserted (s : State) : Bool := s.port.selectIgnored

/-- Section 11.1, the pin table of section 11.5: MISO is high-impedance while the select is deasserted. -/
def State.misoHighImpedance (s : State) : Bool := !s.selectAsserted

/-- Section 11.5: TX is high at mark. -/
def mark : Level := .high

/-- R67: the other level of TX. -/
def space : Level := .low

/-- R67, one level for each bit time: a start bit at space, the eight data bits, the least significant first, and a stop bit at mark. A data bit of 0 is at
space, as section 4.4 has it. -/
def characterLevels (c : Byte) : List Level :=
  [space] ++ (List.range 8).map (fun k => if c.getLsbD k then mark else space) ++ [mark]

/-- R67, one level for each bit time from the raising of TXEN: one character time at mark while the modem keys up, then the characters back to back. -/
def transmissionLevels (frame : List Byte) : List Level := List.replicate 10 mark ++ frame.flatMap characterLevels

/-- R66, R67: the level of TX, `n` bit times after TXEN was raised; with TXEN low, and after the last character, TX rests at mark. How far a transmission has
come is not state (log 17). -/
def Leg.tx (l : Leg) (n : Nat) : Level := if l.txen then (transmissionLevels l.frame).getD n mark else mark

/-! ## Clock -/

/-- R118: a stamp taken now. -/
def State.now (s : State) : Stamp := ⟨s.clock.minute, s.clock.second⟩

/-- R112: the reference is selected in every state but NOT_SELECTED. -/
def TimeBase.selected (c : TimeBase) : Bool := c.ref ≠ .notSelected

/-! ## Subscribers -/

/-- R3: the account index finds a record by its account. -/
def State.findAccount (s : State) (account : Nat) : Option (Nat × Subscriber) :=
  match s.accounts.get? account with
  | none => none
  | some i => match s.subs.get? i with
    | none => none
    | some r => some (i, r)

/-- R4: a record is short of funds when a PREPAID balance is 0, or owed is greater than the credit ceiling. -/
def Purse.short : Purse → Bool
  | .prepaid b => b = 0
  | .account owed ceiling => (ceiling : Int) < owed

/-- R2. -/
def Purse.isPrepaid : Purse → Bool
  | .prepaid _ => true
  | .account _ _ => false

/-- The balance, or owed. -/
def Purse.figure : Purse → Int
  | .prepaid b => b
  | .account owed _ => owed

/-! ## Elements -/

/-- Section 5.2: an element is reachable when it is UP or SUSPECT. -/
def ElementState.reachable : ElementState → Bool
  | .up | .suspect => true
  | .down | .shadowed | .verify => false

/-- Whether an element is polled as a routine element: UP, SUSPECT or DOWN (R74). -/
def ElementState.polled : ElementState → Bool
  | .up | .suspect | .down => true
  | .shadowed | .verify => false

/-- Walk up the parent links of element `x`, looking for `e`; `fuel` links at most (depth is at most 16, R88). -/
def underFrom (elements : Table Element) (e : Nat) : Nat → Nat → Bool
  | 0, _ => false
  | fuel + 1, x =>
    x == e || match elements.get? x with
      | none => false
      | some r => match r.parent with
        | none => false
        | some p => underFrom elements e fuel p

/-- Section 5.1: whether `x` lies in the subtree of `e`: it is `e` or below it. -/
def State.under (s : State) (e x : Nat) : Bool := underFrom s.elements e 16 x

/-- R102: ELEMENT_ON_BATTERY stands while the last supply state is BATTERY or BATTERY_LOW. -/
def Supply.onBattery : Supply → Bool
  | .battery | .batteryLow => true
  | .mains | .unknown => false

/-- R102: ELEMENT_BATTERY_LOW stands while the last supply state is BATTERY_LOW. -/
def Supply.isLow : Supply → Bool
  | .batteryLow => true
  | .mains | .battery | .unknown => false

/-- R103: ELEMENT_LEVEL stands while the magnitude of the last forward level is greater than the level limit. -/
def levelStands (limit : Nat) : Option Int → Bool
  | none => false
  | some l => limit < l.natAbs

/-! ## Taps -/

/-- Section 3.1: the in-flight flag. -/
def Tap.inFlight (t : Tap) : Bool := t.origin.isSome

/-- Section 3.1: the switch queue that holds a tap. -/
def State.membership (s : State) (tap : Nat) : Option QueueKind :=
  if s.urgent.contains tap then some .urgent else if s.bulk.contains tap then some .bulk else none

/-- Whether the element that feeds a tap is reachable as it stands. -/
def State.feedReachable (s : State) (t : Tap) : Bool :=
  match s.elements.get? t.feeding with
  | none => false
  | some e => e.state.reachable

/-- R51: a queued tap is held while its feeding element is DOWN, SHADOWED or VERIFY. -/
def State.held (s : State) (tap : Nat) : Bool :=
  match s.taps.get? tap with
  | none => false
  | some t => !s.feedReachable t

/-- R50: an entry is eligible for a leg when its feeding element is on that leg and reachable. -/
def State.eligible (s : State) (leg tap : Nat) : Bool :=
  match s.taps.get? tap with
  | none => false
  | some t => match s.elements.get? t.feeding with
    | none => false
    | some e => e.leg == leg && e.state.reachable

/-- R62, R64: whether a scope covers a tap, as the tree stands. -/
def State.covers (s : State) (scope : Scope) (t : Tap) : Bool :=
  match scope with
  | .all => true
  | .subtrees es => es.any fun e => s.under e t.feeding

/-- R59: a countdown is running while it is present. -/
def Tap.counting (t : Tap) : Bool := t.countdown.isSome

/-! ## The desired setting (R47) -/

/-- R47, condition 3: an event on the slot is OPEN and its id is in the purchase list. -/
def State.bought (s : State) (purchases : List Nat) (slot : Nat) : Bool :=
  purchases.any fun id => match s.events.get? id with
    | none => false
    | some e => e.slot == slot && e.state = .opened

/-- R47: whether an ACTIVE subscriber's port passes a slot. -/
def State.passesActive (s : State) (r : Subscriber) (slot : Nat) (d : Definition) : Bool :=
  d.state = .carried &&
    ((d.tier = none && !d.pay)
      || (match d.tier with | none => false | some t => r.tiers.getLsbD t)
      || (d.pay && s.bought r.purchases slot)
      || d.lifeline)

/-- R47: whether a LAPSED subscriber's port passes a slot. -/
def passesLapsed (d : Definition) : Bool := d.state = .carried && d.lifeline

/-- The pass set of the slots that a test admits, from slot `n` on. -/
def passSetFrom (test : Nat → Definition → Bool) : Nat → List Slot → BitVec 96
  | _, [] => 0#96
  | n, sl :: rest => (if test n sl.current then 1#96 <<< n else 0#96) ||| passSetFrom test (n + 1) rest

/-- R47: the desired setting for a bound subscriber. -/
def State.desiredFor (s : State) (r : Subscriber) : Setting :=
  match r.state with
  | .new | .suspended | .closed => .off
  | .lapsed => .on (passSetFrom (fun _ d => passesLapsed d) 0 s.slots)
  | .active => .on (passSetFrom (fun n d => s.passesActive r n d) 0 s.slots)

/-- R47: the desired setting of a port, from the records as they stand. -/
def State.desired (s : State) (p : TapPort) : Setting :=
  match p.subscriber with
  | none => .off
  | some i => match s.subs.get? i with
    | none => .off
    | some r => s.desiredFor r

/-! ## Line-up and events -/

/-- R27, R33: the Event Table holds an event on the slot that is SCHEDULED or OPEN; with `except` = N, an OPEN event whose close minute is N does
not count. -/
def State.liveEvent (s : State) (slot : Nat) (except_ : Option Nat) : Bool :=
  s.events.any fun p =>
    p.2.slot == slot && (p.2.state = .scheduled || (p.2.state = .opened && some p.2.closeMinute ≠ except_))

/-- R27: a definition passes the live-event test for a slot. -/
def State.passesLive (s : State) (slot : Nat) (d : Definition) (except_ : Option Nat) : Bool :=
  (d.state = .carried && d.pay) || !s.liveEvent slot except_

/-- R158: the sensed value of a level sense is high for LEVEL_HIGH and low for LEVEL_LOW; an edge sense has none. -/
def Sense.sensed : Sense → Option Level
  | .levelHigh => some .high
  | .levelLow => some .low
  | .rising | .falling | .both => none

/-- Section 9.1: LEVEL_HIGH and LEVEL_LOW are level senses. -/
def Sense.isLevel (x : Sense) : Bool := x.sensed.isSome

/-- R35: the input watches the slot and its debounced level is at the inactive value. -/
def Input.darkens (x : Input) (slot : Nat) : Bool :=
  x.role = .carrier && x.slot == slot && some x.level ≠ x.sense.sensed

/-- R35: a slot is dark while at least one CARRIER input for it is at the inactive value. -/
def State.darkNow (s : State) (slot : Nat) : Bool := s.inputs.any fun x => x.darkens slot

/-- Whether the slot of an event is dark, as the Line-Up Table's flag stands (R37). -/
def State.slotDark (s : State) (slot : Nat) : Bool :=
  match s.slots[slot]? with
  | none => false
  | some x => x.dark

/-! ## Billing -/

/-- R122: the rate sum: the current rates of the tiers in the set, as they stand. -/
def rateSumFrom (set : BitVec 16) : Nat → List Tier → Nat
  | _, [] => 0
  | n, t :: rest => (if set.getLsbD n then t.rate else 0) + rateSumFrom set (n + 1) rest

/-- R122: the rate sum of a record. -/
def State.rateSum (s : State) (r : Subscriber) : Nat := rateSumFrom r.tiers 0 s.tiers

/-- R125: a record is in outage when it has a tap port and that tap's feeding element is DOWN, SHADOWED or VERIFY. -/
def State.inOutage (s : State) (r : Subscriber) : Bool :=
  match r.tapPort with
  | none => false
  | some p => s.held p.tap

/-! ## Alarms -/

/-- R161: the level of a kind. -/
def AlarmUnit.level (a : AlarmUnit) (k : AlarmKind) : Nat := a.levels.getD (k.rank - 1) 0

/-- The place of a kind and subject in the table: rank first, subject second (R170). -/
def alarmKey (k : AlarmKind) (subject : Nat) : Nat := k.rank * 65536 + subject

/-- Every entry: the table's and the one in the reserved place, by rank and subject. -/
def AlarmUnit.entries (a : AlarmUnit) : List Entry := a.overflow.toList ++ a.table.map Prod.snd

/-- The entry for a kind and subject; TABLE_OVERFLOW's is the one in the reserved place (R163). -/
def AlarmUnit.find? (a : AlarmUnit) (k : AlarmKind) (subject : Nat) : Option Entry :=
  match k with
  | .tableOverflow => a.overflow
  | _ => a.table.get? (alarmKey k subject)

/-- R165: an entry is presentable when it is RAISED and its kind's level is greater than the mask level. -/
def AlarmUnit.presentable (a : AlarmUnit) (e : Entry) : Bool := e.state = .raised && a.mask < a.level e.kind

/-- R165: whether `x` is presented before `y`: level highest first, then rank lowest first, then sequence number lowest first. -/
def AlarmUnit.before (a : AlarmUnit) (x y : Entry) : Bool :=
  let lx := a.level x.kind
  let ly := a.level y.kind
  ly < lx || (lx == ly && (x.kind.rank < y.kind.rank || (x.kind.rank == y.kind.rank && x.seq < y.seq)))

/-- The first of some entries in the order of R165. -/
def AlarmUnit.firstOf (a : AlarmUnit) : List Entry → Option Entry
  | [] => none
  | x :: rest => match a.firstOf rest with
    | none => some x
    | some y => if a.before y x then some y else some x

/-- R165: the first presentable entry. -/
def AlarmUnit.firstPresentable (a : AlarmUnit) : Option Entry := a.firstOf (a.entries.filter a.presentable)

/-- R166: the number of presentable entries. -/
def AlarmUnit.presentableCount (a : AlarmUnit) : Nat := (a.entries.filter a.presentable).length

/-- R165: ATTN is high while at least one presentable entry exists. -/
def State.attn (s : State) : Bool := s.alarms.entries.any s.alarms.presentable

end Sys2Proof.Machine
end

