-- ==== Sys2Proof/Machine/Ops.lean ====
section
/-! DEFINITION. The operations every block shares: updates of one record, the Alarm Unit's raise and end, needs and sweep requests, a
subscriber's change of state, and the Request Port's acceptance, common refusals and answer. -/

namespace Sys2Proof.Machine

/-! ## Updates of one record -/

def State.updSub (s : State) (i : Nat) (f : Subscriber → Subscriber) : State := { s with subs := s.subs.modify i f }
def State.updSlot (s : State) (i : Nat) (f : Slot → Slot) : State := { s with slots := s.slots.modify i f }
def State.updTier (s : State) (i : Nat) (f : Tier → Tier) : State := { s with tiers := s.tiers.modify i f }
def State.updEvent (s : State) (i : Nat) (f : EventRec → EventRec) : State := { s with events := s.events.modify i f }
def State.updTap (s : State) (i : Nat) (f : Tap → Tap) : State := { s with taps := s.taps.modify i f }
def State.updLeg (s : State) (i : Nat) (f : Leg → Leg) : State := { s with legs := s.legs.modify i f }
def State.updElement (s : State) (i : Nat) (f : Element → Element) : State := { s with elements := s.elements.modify i f }
def State.updInput (s : State) (i : Nat) (f : Input → Input) : State := { s with inputs := s.inputs.modify i f }

/-- A counter that rises by one and saturates at 65,535 (R86, R108, R120). -/
def up16 (n : Nat) : Nat := if n < 65535 then n + 1 else 65535

/-- Money kept within 0 to 99,999,999 cents. -/
def clampCents (n : Nat) : Nat := min n 99999999

/-- Money kept within -99,999,999 to +99,999,999 cents. -/
def clampSigned (n : Int) : Int := max (-99999999) (min n 99999999)

/-! ## Free orders (log 7, log 8) -/

/-- A list in an order the manual leaves open: each element is put at a freely chosen place among those after it. Every order of
the list is some choice's. A list of one element has one order. -/
def arrange {α : Type} : Nat → List α → List α
  | _, [] => []
  | _, [x] => [x]
  | k, x :: y :: rest =>
    (arrange (k + 1) (y :: rest)).insertIdx (Config.freePick k % (rest.length + 2)) x

/-! ## The Alarm Unit's raise and end (R162 to R164) -/

/-- Write an entry in its place: the reserved place for TABLE_OVERFLOW, the table for every other kind. -/
def AlarmUnit.put (a : AlarmUnit) (e : Entry) : AlarmUnit :=
  match e.kind with
  | .tableOverflow => { a with overflow := some e }
  | _ => { a with table := a.table.set (alarmKey e.kind e.subject) e }

/-- Remove the entry for a kind and subject. -/
def AlarmUnit.remove (a : AlarmUnit) (k : AlarmKind) (subject : Nat) : AlarmUnit :=
  match k with
  | .tableOverflow => { a with overflow := none }
  | _ => { a with table := a.table.erase (alarmKey k subject) }

/-- R162: the place, counting from 1, of a sequence number in the order of the present ones. -/
def AlarmUnit.seqPlace (a : AlarmUnit) (seq : Nat) : Nat := 1 + (a.entries.filter fun e => e.seq < seq).length

/-- R162: when the counter would pass 4,294,967,295, the entries are renumbered 1, 2, 3 and upward in their present order, and the counter
continues from the last number given. -/
def AlarmUnit.makeRoom (a : AlarmUnit) : AlarmUnit :=
  if a.seq < 4294967295 then a
  else { a with
    table := a.table.mapAll fun _ e => { e with seq := a.seqPlace e.seq }
    overflow := a.overflow.map fun e => { e with seq := a.seqPlace e.seq }
    seq := a.entries.length }

/-- R162: the sequence counter rises by one; its new value is the new raise sequence number. -/
def AlarmUnit.bump (a : AlarmUnit) : AlarmUnit := { a.makeRoom with seq := a.makeRoom.seq + 1 }

/-- R162: a new entry for a kind and subject. -/
def AlarmUnit.make (a : AlarmUnit) (k : AlarmKind) (subject : Nat) (type : AlarmType) (now : Stamp) : AlarmUnit :=
  a.bump.put ⟨k, subject, type, .raised, 1, a.bump.seq, now, now⟩

/-- R162: the raise of an entry that exists. -/
def AlarmUnit.again (a : AlarmUnit) (k : AlarmKind) (subject : Nat) (now : Stamp) : AlarmUnit :=
  match a.find? k subject with
  | none => a
  | some e => match e.state with
    | .raised => a.put { e with repeats := min (e.repeats + 1) 255, last := now }
    | .cleared =>
      a.bump.put { e with state := .raised, repeats := min (e.repeats + 1) 255, seq := a.bump.seq, last := now }
    | .reported | .acked => a

/-- R163: a raise refused for room is counted in the reserved place, unless TABLE_OVERFLOW is at level 0. -/
def AlarmUnit.countOverflow (a : AlarmUnit) (now : Stamp) : AlarmUnit :=
  if a.level .tableOverflow = 0 then a
  else match a.overflow with
    | none => a.make .tableOverflow 0 .occurrence now
    | some _ => a.again .tableOverflow 0 now

/-- R162, R163: a raise for a kind and subject. -/
def AlarmUnit.raise (a : AlarmUnit) (k : AlarmKind) (subject : Nat) (type : AlarmType) (now : Stamp) : AlarmUnit :=
  if a.level k = 0 then a
  else match a.find? k subject with
    | some _ => a.again k subject now
    | none => if a.table.length < 128 then a.make k subject type now else a.countOverflow now

/-- R164: the end of a condition for a kind and subject. -/
def AlarmUnit.endCondition (a : AlarmUnit) (k : AlarmKind) (subject : Nat) : AlarmUnit :=
  match a.find? k subject with
  | none => a
  | some e => match e.state with
    | .raised | .reported => a.put { e with state := .cleared }
    | .acked => a.remove k subject
    | .cleared => a

/-- A block raises a condition. -/
def State.raiseCondition (s : State) (k : AlarmKind) (subject : Nat) : State :=
  { s with alarms := s.alarms.raise k subject .condition s.now }

/-- A block raises an occurrence. -/
def State.raiseOccurrence (s : State) (k : AlarmKind) (subject : Nat) : State :=
  { s with alarms := s.alarms.raise k subject .occurrence s.now }

/-- A block ends a condition with the Alarm Unit. -/
def State.endAlarm (s : State) (k : AlarmKind) (subject : Nat) : State :=
  { s with alarms := s.alarms.endCondition k subject }

/-- Raise or end a condition as it comes to stand or ceases to (R102, R103): nothing when it stood and stands, or neither. -/
def State.followCondition (s : State) (k : AlarmKind) (subject : Nat) (before after : Bool) : State :=
  if !before && after then s.raiseCondition k subject
  else if before && !after then s.endAlarm k subject
  else s

/-! ## Needs (R48, R49) -/

/-- Put a tap at the tail of a switch queue. -/
def State.joinTail (s : State) (q : QueueKind) (tap : Nat) : State :=
  match q with
  | .urgent => { s with urgent := s.urgent ++ [tap] }
  | .bulk => { s with bulk := s.bulk ++ [tap] }

/-- Return a tap to the head of a switch queue (R55, R58). -/
def State.joinHead (s : State) (q : QueueKind) (tap : Nat) : State :=
  match q with
  | .urgent => { s with urgent := tap :: s.urgent }
  | .bulk => { s with bulk := tap :: s.bulk }

/-- Take a tap off the switch queues. -/
def State.leaveQueues (s : State) (tap : Nat) : State :=
  { s with urgent := s.urgent.filter (· != tap), bulk := s.bulk.filter (· != tap) }

/-- R49: a need is taken according to where the tap stands when it arrives. A need for an index without a tap is no need. -/
def State.need (s : State) (kind : QueueKind) (tap : Nat) : State :=
  match s.taps.get? tap with
  | none => s
  | some t =>
    if t.inFlight then s.updTap tap fun t => { t with dirty := true }
    else match s.membership tap with
      | some .urgent => s
      | some .bulk => match kind with
        | .urgent => (s.leaveQueues tap).joinTail .urgent tap
        | .bulk => s
      | none => if t.counting then s else s.joinTail kind tap

/-- R6: a bound record makes an urgent need for its tap; a record with no tap port makes none. -/
def State.needFor (s : State) (p : Option PortRef) : State :=
  match p with
  | none => s
  | some p => s.need .urgent p.tap

/-! ## Sweep requests (R62) -/

/-- A tap with the confirmed settings of its four ports made absent. -/
def Tap.forgotten (t : Tap) : Tap := { t with ports := t.ports.map fun p => { p with confirmed := none } }

/-- R62: clearing at once, of the taps under any of some elements, as the tree stands. Taps whose countdown runs are left as they are. -/
def State.clearUnder (s : State) (elements : List Nat) : State :=
  { s with taps := s.taps.mapAll fun _ t =>
      if (elements.any fun e => s.under e t.feeding) && !t.counting then t.forgotten else t }

/-- R62: the merging of a request into the pending scope set. -/
def State.mergeScope (s : State) (request : SweepRequest) : State :=
  match s.scopes, request with
  | none, .all => { s with scopes := some .all }
  | none, .subtree e => { s with scopes := some (.subtrees [e]) }
  | some .all, .all => s
  | some .all, .subtree e => s.clearUnder [e]
  | some (.subtrees es), .all => { s.clearUnder es with scopes := some .all }
  | some (.subtrees es), .subtree e =>
    if es.contains e then s
    else if es.length < 8 then { s with scopes := some (.subtrees (es ++ [e])) }
    else { s.clearUnder (es ++ [e]) with scopes := some .all }

/-- R62: the scope a request starts a sweep with. -/
def SweepRequest.scope : SweepRequest → Scope
  | .all => .all
  | .subtree e => .subtrees [e]

/-- R62: a sweep request starts a sweep, or is added to the pending scope set while one is in flight. -/
def State.requestSweep (s : State) (request : SweepRequest) : State :=
  match s.sweep with
  | none => { s with sweep := some ⟨request.scope, 0⟩ }
  | some _ => s.mergeScope request

/-! ## A subscriber's change of state (R5, R6) -/

/-- R5: a request change: the state, and the urgent need of a bound record (R6). A change to the state it has is no change. -/
def State.requestChange (s : State) (i : Nat) (r : Subscriber) (state : SubState) : State :=
  if r.state = state then s
  else (s.updSub i fun r => { r with state := state }).needFor r.tapPort

/-- R5: an automatic change: the state and the changed flag, the urgent need, and the CREDIT_CHANGE occurrence. -/
def State.automaticChange (s : State) (i : Nat) (r : Subscriber) (state : SubState) : State :=
  ((s.updSub i fun r => { r with state := state, changed := true }).needFor r.tapPort).raiseOccurrence .creditChange 0

/-! ## The Request Port (R171 to R175) -/

/-- Zero bytes shifted out while a frame is received (R171). -/
def zeros (n : Nat) : List Byte := List.replicate n 0#8

/-- R172: a select that was asserted as the part left reset is ignored until it is deasserted. -/
def State.endIgnoredSelect (s : State) : State := { s with port := { s.port with selectIgnored := false } }

/-- R173: a complete request frame that arrives while a request is served is discarded and sets the overrun flag. The record of MISO ends with the frame's
last byte (the model's choice, log 45). -/
def State.discardFrame (s : State) (bodyLength : Nat) : State :=
  { s with port := { s.port with overrun := true, requestBuffer := [], miso := zeros (2 + bodyLength) } }

/-- R173: a frame is accepted: a waiting response is discarded, the port becomes SERVING and RDY falls. The record of MISO ends with the frame's last byte
(the model's choice, log 45). -/
def State.acceptFrame (s : State) (bodyLength : Nat) : State :=
  { s with port := { s.port with
      state := .serving, requestBuffer := [], responseBuffer := none, answer := none, miso := zeros (2 + bodyLength) } }

/-- The owner has answered; RESPONSE_READY places the answer in the response buffer (log 6). -/
def State.answer (s : State) (r : Response) : State := { s with port := { s.port with answer := some r } }

/-- A response that serves the request. -/
def okWith (body : List Byte) : Response := ⟨.ok, body⟩

/-- R175: a refusal has a body of length 0. -/
def refusal (status : Status) : Response := ⟨status, []⟩

/-- The device modes a request is served in (section 10.5). -/
inductive Modes where
  | both
  | loadingOnly
  | liveOnly
  deriving DecidableEq, Repr

/-- R175: whether a request passes the mode test. -/
def Modes.allow : Modes → DeviceMode → Bool
  | .both, _ => true
  | .loadingOnly, m => m = .loading
  | .liveOnly, m => m = .live

/-- What an owner makes of a request: the state after and its answer. -/
abbrev Served := State × Response

/-- The owner refuses: nothing changes (R8). -/
def State.refuse (s : State) (status : Status) : Served := (s, refusal status)

/-- The owner serves a request. -/
def State.served (s : State) (body : List Byte) : Served := (s, okWith body)

/-- R175: the common tests, then the owner. -/
def commonTests (length : Nat) (modes : Modes) (body : List Byte) (owner : State → Served) (s : State) : Served :=
  if body.length ≠ length then s.refuse .badLength
  else if !modes.allow s.mode then s.refuse .wrongMode
  else owner s

/-- A request frame of known code arrives at the port (R172, R173, R175): `length` is the body length of section 11.2. No owner reads the port, so its
acceptance and the owner's answer are written together. -/
def request (length : Nat) (modes : Modes) (body : List Byte) (owner : State → Served) (s : State) : State :=
  if s.port.selectIgnored then s.endIgnoredSelect
  else if s.port.state = .serving then s.discardFrame body.length
  else
    let result := commonTests length modes body owner s
    (result.1.acceptFrame body.length).answer result.2

end Sys2Proof.Machine
end

