-- ==== Sys2Proof/Machine/Alarms.lean ====
section
/-! DEFINITION. Chapter 9, sections 9.2 to 9.5: the requests of the Alarm Unit. -/

namespace Sys2Proof.Machine

/-! ## Fetch and Acknowledge (R166, R167) -/

/-- R166: the body of Fetch Alarm: the entry as it stood before the fetch, and the number of presentable entries that remain. -/
def fetchBody (e : Entry) (remaining : Nat) : List Byte :=
  w8 e.kind.code ++ w16 e.subject ++ w8 e.type.code ++ w8 e.repeats ++ w32 e.seq ++ wstamp e.first ++ wstamp e.last
    ++ w8 e.state.code ++ w8 remaining

/-- R166: a fetched condition becomes REPORTED, a fetched occurrence is removed. -/
def AlarmUnit.fetched (a : AlarmUnit) (e : Entry) : AlarmUnit :=
  match e.type with
  | .condition => a.put { e with state := .reported }
  | .occurrence => a.remove e.kind e.subject

/-- R166. -/
def fetchAlarmOwner (s : State) : Served :=
  match s.alarms.firstPresentable with
  | none => s.refuse .notFound
  | some e =>
    let after := s.alarms.fetched e
    { s with alarms := after }.served (fetchBody e after.presentableCount)

/-- R166. -/
def execFetchAlarm (body : List Byte) (s : State) : Out := .next (request 0 .both body fetchAlarmOwner s)

/-- R167, section 9.2: the range of a kind's subject. -/
def AlarmKind.subjectOk (k : AlarmKind) (subject : Nat) : Bool :=
  match k with
  | .tableOverflow | .meterSlip | .refLost | .creditChange | .periodClosed => subject = 0
  | .legReturnFault => subject ≤ 3
  | .elementDown | .elementBatteryLow | .elementOnBattery | .elementLevel => subject ≤ 127
  | .channelDark => subject ≤ 95
  | .contact => subject ≤ 31
  | .tapSilent | .tapTamper => subject ≤ 511
  | .eventRefund => 1 ≤ subject && subject ≤ 65535

/-- R167: the kind of a rank in a body, with its subject in range. -/
def namedAlarm (b : List Byte) : Option (AlarmKind × Nat) :=
  match kindOfRank (u8 b 0) with
  | none => none
  | some k => if k.subjectOk (u16 b 1) then some (k, u16 b 1) else none

/-- R167: what an acknowledge leaves of an entry: nothing when it is removed. -/
def Entry.acknowledged (e : Entry) : Option Entry :=
  match e.type, e.state with
  | .condition, .raised | .condition, .reported | .condition, .acked => some { e with state := .acked }
  | .condition, .cleared => none
  | .occurrence, _ => none

/-- R167: the entry as an acknowledge leaves it. -/
def AlarmUnit.acknowledge (a : AlarmUnit) (e : Entry) : AlarmUnit :=
  match e.acknowledged with
  | none => a.remove e.kind e.subject
  | some e1 => a.put e1

/-- R167: the response gives the state after, absent for an entry that is removed. -/
def ackOwner (b : List Byte) (s : State) : Served :=
  match namedAlarm b with
  | none => s.refuse .badField
  | some (k, subject) => match s.alarms.find? k subject with
    | none => s.refuse .notFound
    | some e => { s with alarms := s.alarms.acknowledge e }.served
        (wopt 1 (fun e1 : Entry => w8 e1.state.code) e.acknowledged)

/-- R167. -/
def execAcknowledgeAlarm (body : List Byte) (s : State) : Out := .next (request 3 .both body (ackOwner body) s)

/-! ## Levels and mask (R168, R169) -/

/-- R168: every entry of a kind is removed. -/
def AlarmUnit.removeKind (a : AlarmUnit) (k : AlarmKind) : AlarmUnit :=
  { a with
    table := a.table.filter fun p => p.2.kind ≠ k
    overflow := match k with
      | .tableOverflow => none
      | _ => a.overflow }

/-- R168: a kind's level is replaced; at level 0 its entries are removed. -/
def AlarmUnit.setLevel (a : AlarmUnit) (k : AlarmKind) (level : Nat) : AlarmUnit :=
  let a1 := { a with levels := a.levels.set (k.rank - 1) level }
  if level = 0 then a1.removeKind k else a1

/-- R168. -/
def setAlarmLevelOwner (b : List Byte) (s : State) : Served :=
  match kindOfRank (u8 b 0) with
  | none => s.refuse .badField
  | some k =>
    if 7 < u8 b 1 then s.refuse .badField
    else { s with alarms := s.alarms.setLevel k (u8 b 1) }.served []

/-- R168. -/
def execSetAlarmLevel (body : List Byte) (s : State) : Out := .next (request 2 .both body (setAlarmLevelOwner body) s)

/-- R169. -/
def execSetAlarmMask (body : List Byte) (s : State) : Out :=
  .next (request 1 .both body (fun s =>
    if 7 < u8 body 0 then s.refuse .badField
    else { s with alarms := { s.alarms with mask := u8 body 0 } }.served []) s)

/-! ## Reads (R170) -/

/-- R170: the body of Read Alarm and Next Alarm. -/
def AlarmUnit.entryBody (a : AlarmUnit) (e : Entry) : List Byte :=
  w8 e.kind.code ++ w16 e.subject ++ w8 e.type.code ++ w8 e.state.code ++ w8 e.repeats ++ w32 e.seq ++ wstamp e.first
    ++ wstamp e.last ++ wflag (a.presentable e)

/-- R170. -/
def readAlarmOwner (b : List Byte) (s : State) : Served :=
  match namedAlarm b with
  | none => s.refuse .badField
  | some (k, subject) => match s.alarms.find? k subject with
    | none => s.refuse .notFound
    | some e => s.served (s.alarms.entryBody e)

/-- R170. -/
def execReadAlarm (body : List Byte) (s : State) : Out := .next (request 3 .both body (readAlarmOwner body) s)

/-- R170: the entry that follows a rank and subject, or the first entry when the rank is 0. -/
def AlarmUnit.following (a : AlarmUnit) (rank subject : Nat) : Option Entry :=
  if rank = 0 then a.entries.head?
  else a.entries.find? fun e => rank < e.kind.rank || (e.kind.rank == rank && subject < e.subject)

/-- R170. -/
def nextAlarmOwner (b : List Byte) (s : State) : Served :=
  if 15 < u8 b 0 then s.refuse .badField
  else match s.alarms.following (u8 b 0) (u16 b 1) with
    | none => s.refuse .notFound
    | some e => s.served (s.alarms.entryBody e)

/-- R170. -/
def execNextAlarm (body : List Byte) (s : State) : Out := .next (request 3 .both body (nextAlarmOwner body) s)

/-- R170: the body of Read Alarm Unit. -/
def alarmUnitBody (a : AlarmUnit) : List Byte :=
  w8 a.table.length ++ wflag a.overflow.isSome ++ w8 a.presentableCount ++ w8 a.mask ++ a.levels.flatMap w8 ++ w32 a.seq

/-- R170. -/
def execReadAlarmUnit (body : List Byte) (s : State) : Out :=
  .next (request 0 .both body (fun s => s.served (alarmUnitBody s.alarms)) s)

end Sys2Proof.Machine
end

