-- ==== Sys2Proof/Machine/BillingOps.lean ====
section
/-! DEFINITION. The shared operations on a subscriber's money: refunds (R146), outage episodes (R125, R126), the draw (R124), the close of a
period and the final statement (R128 to R133), and the start and end of a metering pass (R114, R115, R122, R132). -/

namespace Sys2Proof.Machine

/-! ## Refunds (R146) -/

/-- R146: what brought a refund, which decides what a restore is. -/
inductive RefundBy where
  /-- An end walk or Cancel Event: a restore is an automatic change. -/
  | automatic
  /-- Withdraw Purchase: a restore is a request change. -/
  | request
  /-- Close Subscriber: the refund restores nothing. -/
  | closing
  deriving DecidableEq, Repr

/-- R146: a price returned to the money fields of a record. -/
def Subscriber.refunded (r : Subscriber) (price : Nat) : Subscriber :=
  match r.purse with
  | .prepaid b =>
    { r with purse := .prepaid (clampCents (b + price)), refundCents := clampCents (r.refundCents + (clampCents (b + price) - b)) }
  | .account _ _ => { r with refundCents := clampCents (r.refundCents + price) }

/-- R126, R146: a LAPSED PREPAID record whose balance is above 0. -/
def Subscriber.restorable (r : Subscriber) : Bool :=
  match r.purse with
  | .prepaid b => r.state = .lapsed && 0 < b
  | .account _ _ => false

/-- R146: a refund of an event's price to one record. A refund of price 0 changes nothing. -/
def State.refund (s : State) (i price : Nat) (by_ : RefundBy) : State :=
  match s.subs.get? i with
  | none => s
  | some r =>
    if price = 0 then s
    else
      let r1 := r.refunded price
      let s1 := s.updSub i fun r => r.refunded price
      if r1.restorable then
        match by_ with
        | .automatic => s1.automaticChange i r1 .active
        | .request => s1.requestChange i r1 .active
        | .closing => s1
      else s1

/-! ## Outage episodes (R125, R126) -/

/-- R126: an episode's pending credit granted to a record. -/
def Subscriber.granted (r : Subscriber) (e : Episode) : Subscriber :=
  match r.purse with
  | .account _ _ => { r with creditAcc := r.creditAcc + e.pendingCm, creditedMin := r.creditedMin + e.pendingMin }
  | .prepaid b =>
    let p := r.creditRem + e.pendingCm
    { r with
      purse := .prepaid (clampCents (b + p / 43200)), returned := r.returned + p / 43200, creditRem := p % 43200
      creditedMin := r.creditedMin + e.pendingMin }

/-- R126: a qualified episode's credit is granted, with the restore of a LAPSED PREPAID record (log 14) unless Close Subscriber settles it. -/
def State.grant (s : State) (i : Nat) (e : Episode) (settling : Bool) : State :=
  match s.subs.get? i with
  | none => s
  | some r =>
    let r1 := r.granted e
    let s1 := s.updSub i fun r => r.granted e
    if r1.restorable ∧ !settling then s1.automaticChange i r1 .active else s1

/-- R126: an episode ends: it is granted when its minutes are at or above the threshold in force, and removed in both cases. -/
def State.endEpisode (s : State) (i : Nat) (e : Episode) (settling : Bool) : State :=
  (if s.billing.threshold ≤ e.minutes then s.grant i e settling else s).updSub i fun r => { r with episode := none }

/-- R125: one more minute of an episode, at rate sum `rate`. -/
def Episode.extended (e : Episode) (rate : Nat) : Episode :=
  ⟨min (e.minutes + 1) 65535, e.pendingCm + rate, e.pendingMin + 1⟩

/-- R125: the outage check of one charged minute. -/
def State.outageCheck (s : State) (i rate : Nat) : State :=
  match s.subs.get? i with
  | none => s
  | some r =>
    if s.inOutage r then
      s.updSub i fun r => { r with episode := some ((r.episode.getD ⟨0, 0, 0⟩).extended rate) }
    else match r.episode with
      | none => s
      | some e => s.endEpisode i e false

/-! ## One metered minute (R123, R124) -/

/-- R123, R124: the minute charged to an ACTIVE record at rate sum `rate`: to the charge accumulator of an ACCOUNT record, as a draw to a
PREPAID one. -/
def Subscriber.charged (r : Subscriber) (rate : Nat) : Subscriber :=
  match r.purse with
  | .account _ _ => { r with chargedMin := r.chargedMin + 1, chargeAcc := r.chargeAcc + rate }
  | .prepaid b =>
    let d := r.chargeAcc + rate
    { r with
      chargedMin := r.chargedMin + 1, chargeAcc := d % 43200, drawn := r.drawn + d / 43200, purse := .prepaid (b - d / 43200) }

/-- R124: the record has spent its balance. -/
def Purse.spent : Purse → Bool
  | .prepaid b => b = 0
  | .account _ _ => false

/-- R123 to R126: the work for the minute of one record. -/
def State.meterRecord (s : State) (i : Nat) (r : Subscriber) : State :=
  match r.state with
  | .closed => s
  | .new | .suspended | .lapsed => match r.episode with
    | none => s
    | some e => s.endEpisode i e false
  | .active =>
    let rate := s.rateSum r
    let r1 := r.charged rate
    let s1 := s.updSub i fun r => r.charged rate
    let s2 := if r1.purse.spent then s1.automaticChange i r1 .lapsed else s1
    s2.outageCheck i rate

/-! ## Statements (R131) -/

/-- The figures a close or a final statement works out. -/
structure Figures where
  period : Nat
  tier : Nat
  credit : Nat
  net : Int
  final : Bool
  deriving DecidableEq, Repr

/-- R131: a new statement. -/
def Subscriber.newStatement (r : Subscriber) (f : Figures) : Statement :=
  { firstPeriod := f.period, lastPeriod := f.period, spanned := 1
    tier := clampCents f.tier, credit := clampCents f.credit, event := r.eventCents, refund := r.refundCents
    adjustment := r.adjCents, net := f.net, after := r.purse.figure
    chargedMin := r.chargedMin, creditedMin := r.creditedMin, final := f.final }

/-- R131: figures merged into a waiting statement. -/
def Subscriber.mergedStatement (r : Subscriber) (f : Figures) (old : Statement) : Statement :=
  { firstPeriod := old.firstPeriod, lastPeriod := f.period, spanned := min (old.spanned + 1) 255
    tier := clampCents (old.tier + f.tier), credit := clampCents (old.credit + f.credit)
    event := clampCents (old.event + r.eventCents), refund := clampCents (old.refund + r.refundCents)
    adjustment := clampSigned (old.adjustment + r.adjCents), net := clampSigned (old.net + f.net)
    after := r.purse.figure
    chargedMin := min (old.chargedMin + r.chargedMin) 16777215
    creditedMin := min (old.creditedMin + r.creditedMin) 16777215
    final := f.final || old.final }

/-- R131: the figures written to the statement slot, or merged into the statement that waits there; then the period fields are 0 (R121). -/
def Subscriber.withStatement (r : Subscriber) (f : Figures) : Subscriber :=
  { r with
    slot := some (match r.slot with
      | none => r.newStatement f
      | some old => r.mergedStatement f old)
    drawn := 0, returned := 0, eventCents := 0, refundCents := 0, adjCents := 0, chargedMin := 0, creditedMin := 0 }

/-- R130: the net of a period. -/
def Subscriber.netOf (r : Subscriber) (tier credit : Nat) : Int :=
  clampSigned ((tier : Int) - credit + r.eventCents - r.refundCents + r.adjCents)

/-- R130: owed rises by the net, saturating; a PREPAID record's money has moved already. -/
def Subscriber.owing (r : Subscriber) (net : Int) : Subscriber :=
  match r.purse with
  | .account owed ceiling => { r with purse := .account (clampSigned (owed + net)) ceiling }
  | .prepaid _ => r

/-- R129: tier cents T of a close. -/
def Subscriber.tierCents (r : Subscriber) : Nat :=
  match r.purse with
  | .account _ _ => (r.chargeAcc + r.tierCarry) / 43200
  | .prepaid _ => r.drawn

/-- R129: credit cents K of a close. -/
def Subscriber.creditCents (r : Subscriber) : Nat :=
  match r.purse with
  | .account _ _ => (r.creditAcc + r.creditRem) / 43200
  | .prepaid _ => r.returned

/-- R129: what is left of the divisions is carried. -/
def Subscriber.carriedOver (r : Subscriber) : Subscriber :=
  match r.purse with
  | .account _ _ =>
    { r with
      tierCarry := (r.chargeAcc + r.tierCarry) % 43200, chargeAcc := 0
      creditRem := (r.creditAcc + r.creditRem) % 43200, creditAcc := 0 }
  | .prepaid _ => r

/-- R129: an open episode that qualifies pays its pending credit and stays open with its minutes. -/
def State.payOpenEpisode (s : State) (i : Nat) (r : Subscriber) : State :=
  match r.episode with
  | none => s
  | some e =>
    if s.billing.threshold ≤ e.minutes then
      (s.grant i e false).updSub i fun r => { r with episode := some ⟨e.minutes, 0, 0⟩ }
    else s

/-- R128: the record has its period closed: NEW, ACTIVE, SUSPENDED and LAPSED. -/
def SubState.closes : SubState → Bool
  | .new | .active | .suspended | .lapsed => true
  | .closed => false

/-- R130: an ACTIVE ACCOUNT record whose owed is greater than its ceiling lapses at the close. -/
def Subscriber.overCeiling (r : Subscriber) : Bool :=
  match r.purse with
  | .account owed ceiling => r.state = .active && (ceiling : Int) < owed
  | .prepaid _ => false

/-- R128, steps 2 to 5, for the record as it stands. -/
def State.closeFigures (s : State) (i : Nat) : State :=
  match s.subs.get? i with
  | none => s
  | some r =>
    let net := r.netOf r.tierCents r.creditCents
    let r1 := r.carriedOver.owing net
    let figures : Figures := ⟨s.billing.period, r.tierCents, r.creditCents, net, false⟩
    let s1 := s.updSub i fun _ => r1
    let s2 := if r1.overCeiling then s1.automaticChange i r1 .lapsed else s1
    s2.updSub i fun r => r.withStatement figures

/-- R128: the close of one record's period, after its minute's work. -/
def State.closeRecord (s : State) (i : Nat) : State :=
  match s.subs.get? i with
  | none => s
  | some r => if r.state.closes then (s.payOpenEpisode i r).closeFigures i else s

/-! ## The final statement (R133) -/

/-- R133: cents of some cent-minutes, rounded half-up. -/
def roundedCents (cm : Nat) : Nat := cm / 43200 + (if 21600 ≤ cm % 43200 then 1 else 0)

/-- R133, PREPAID, steps 1 and 2: the credit cent, then the last cent of charge. -/
def Subscriber.settledRemainders (r : Subscriber) : Subscriber :=
  match r.purse with
  | .account _ _ => r
  | .prepaid b =>
    let credit := if 21600 ≤ r.creditRem then 1 else 0
    let b1 := clampCents (b + credit)
    let charge := if 21600 ≤ r.chargeAcc ∧ 1 ≤ b1 then 1 else 0
    { r with
      purse := .prepaid (b1 - charge), returned := r.returned + credit, drawn := r.drawn + charge
      creditRem := 0, chargeAcc := 0 }

/-- R133: tier cents of a final statement. -/
def Subscriber.finalTier (r : Subscriber) : Nat :=
  match r.purse with
  | .account _ _ => roundedCents (r.chargeAcc + r.tierCarry)
  | .prepaid _ => r.drawn

/-- R133: credit cents of a final statement. -/
def Subscriber.finalCredit (r : Subscriber) : Nat :=
  match r.purse with
  | .account _ _ => roundedCents (r.creditAcc + r.creditRem)
  | .prepaid _ => r.returned

/-- R133: the remainders and accumulators become 0. -/
def Subscriber.roundedOff (r : Subscriber) : Subscriber :=
  { r with chargeAcc := 0, tierCarry := 0, creditAcc := 0, creditRem := 0 }

/-- R120, R131: the period number after one. -/
def nextPeriod (p : Nat) : Nat := if p = 65535 then 1 else p + 1

/-- R131: the period number of a final statement: the next one when a close pass in flight has visited the record, that is, has passed its index. A record
enrolled behind the walk counts as visited (the model's choice, log 38). -/
def State.finalPeriod (s : State) (i : Nat) : Nat :=
  match s.billing.pass with
  | some p => if p.close.isSome ∧ i < p.next then nextPeriod s.billing.period else s.billing.period
  | none => s.billing.period

/-- R133: the final statement of a record. -/
def Subscriber.finalised (r : Subscriber) (period : Nat) : Subscriber :=
  let r1 := r.settledRemainders
  let net := r1.netOf r1.finalTier r1.finalCredit
  (r1.roundedOff.owing net).withStatement ⟨period, r1.finalTier, r1.finalCredit, net, true⟩

/-! ## Passes (R114, R115, R122, R132) -/

/-- R122: a pass starts; it is a close pass when its boundary carries the close mark. -/
def State.startPass (s : State) (b : HeldBoundary) : State :=
  { s with billing := { s.billing with pass := some ⟨b.minute, 0, b.close⟩ } }

/-- R114, R115: in LIVE the Time Base hands a boundary to the Billing Unit: as a pass start, as the pending boundary, or as a slip, whose close mark
is carried to the pending boundary. -/
def State.handBoundary (s : State) (b : HeldBoundary) : State :=
  match s.billing.pass with
  | none => s.startPass b
  | some _ => match s.clock.pending with
    | none => { s with clock := { s.clock with pending := some b } }
    | some held =>
      ({ s with
        billing := { s.billing with slipped := up16 s.billing.slipped }
        clock := { s.clock with
          pending := some ⟨held.minute, match b.close with | some m => some m | none => held.close⟩ } }).raiseOccurrence
        .meterSlip 0

/-- R41: every tier that holds a staged rate takes it as its current rate. -/
def Tier.swapped (t : Tier) : Tier :=
  match t.staged with
  | none => t
  | some rate => { t with rate := rate, staged := none }

/-- R132: what the Billing Unit does when a close pass with close minute `m` ends. -/
def State.endClose (s : State) (m : Nat) : State :=
  ({ s with
    tiers := s.tiers.map Tier.swapped
    billing := { s.billing with
      start := some m, period := nextPeriod s.billing.period, nextClose := some (m + s.billing.length) } }).raiseOccurrence
    .periodClosed 0

/-- R114, R132: a pass ends; a pending boundary's pass starts at once. -/
def State.endPass (s : State) (p : Pass) : State :=
  let s1 := match p.close with
    | none => s
    | some m => s.endClose m
  let s2 := { s1 with billing := { s1.billing with pass := none } }
  match s2.clock.pending with
  | none => s2
  | some b => ({ s2 with clock := { s2.clock with pending := none } }).startPass b

end Sys2Proof.Machine
end

