-- ==== Sys2Proof/Machine/Subscribers.lean ====
section
/-! DEFINITION. The requests of chapter 1: Enrol, the reads, the requests that move a subscriber between states, tiers and bindings. -/

namespace Sys2Proof.Machine

/-! ## The read body (section 11.4) -/

/-- R11, section 11.4: the 39-byte body of a subscriber record. -/
def subscriberBody (i : Nat) (r : Subscriber) : List Byte :=
  w16 i ++ w32 r.account ++ w8 r.purse.modeCode ++ w8 r.state.code ++ w16 r.tiers.toNat ++ wtapPort r.tapPort
    ++ wi32 r.purse.figure
    ++ w32 (match r.purse with | .prepaid _ => 0 | .account _ ceiling => ceiling)
    ++ w16 r.chargedMin ++ w16 r.creditedMin
    ++ wopt 2 (fun e : Episode => w16 e.minutes) r.episode
    ++ w8 r.purchases.length ++ (r.purchases ++ List.replicate (4 - r.purchases.length) 0).flatMap w16
    ++ wflag r.slot.isSome ++ wflag r.changed

/-! ## Bindings (R21 to R23) -/

/-- Whether a port number is one of a tap's four. -/
def portOk (port : Nat) : Bool := 1 ≤ port && port ≤ 4

/-- The subscriber bound to a port of a tap. -/
def Tap.boundTo (t : Tap) (port : Nat) : Option Nat :=
  match t.ports[port - 1]? with
  | none => none
  | some p => p.subscriber

/-- R21: the tap's half of a binding. -/
def Tap.withBound (t : Tap) (port : Nat) (subscriber : Option Nat) : Tap :=
  { t with ports := t.ports.modify (port - 1) fun p => { p with subscriber := subscriber } }

/-- R21: both halves of a binding are written together. -/
def State.bindPort (s : State) (i : Nat) (p : PortRef) : State :=
  (s.updSub i fun r => { r with tapPort := some p }).updTap p.tap fun t => t.withBound p.port (some i)

/-- R23: both halves of a binding are cleared together. -/
def State.releasePort (s : State) (i : Nat) (p : PortRef) : State :=
  (s.updSub i fun r => { r with tapPort := none }).updTap p.tap fun t => t.withBound p.port none

/-! ## Enrol (R9, R10) -/

/-- R9: the fields of an Enrol. -/
structure EnrolFields where
  account : Nat
  mode : Nat
  state : Nat
  tiers : BitVec 16
  money : Int
  ceiling : Nat
  tap : Nat
  port : Nat
  deriving DecidableEq, Repr

/-- R9, R180: the fields in the order R9 lists them. -/
def enrolFields (b : List Byte) : EnrolFields :=
  ⟨u32 b 0, u8 b 4, u8 b 5, tiersAt b 6, i32 b 8, u32 b 12, u16 b 16, u8 b 18⟩

/-- R180: port 0x00 means that the tap port is absent. -/
def EnrolFields.tapPort (f : EnrolFields) : Option PortRef := if f.port = 0 then none else some ⟨f.tap, f.port⟩

/-- R9, test 1. -/
def EnrolFields.inRange (f : EnrolFields) : Bool :=
  f.account ≠ 0 && f.mode ≤ 1
    && (match subStateOf f.state with | none => false | some .closed => false | some _ => true)
    && (if f.mode = 0 then 0 ≤ f.money && f.money ≤ 99999999 else -99999999 ≤ f.money && f.money ≤ 99999999)
    && f.ceiling ≤ 99999999 && !(f.mode = 0 && f.ceiling ≠ 0)
    && !(f.mode = 0 && subStateOf f.state = some .active && f.money = 0)
    && (f.port = 0 || (f.tap ≤ 511 && portOk f.port))

/-- R2, R10: the record a served Enrol creates, before its binding. -/
def EnrolFields.record (f : EnrolFields) : Subscriber :=
  { account := f.account, tapPort := none, state := (subStateOf f.state).getD .new, tiers := f.tiers
    purse := if f.mode = 0 then .prepaid f.money.toNat else .account f.money f.ceiling
    chargeAcc := 0, tierCarry := 0, creditAcc := 0, creditRem := 0, drawn := 0, returned := 0, eventCents := 0, refundCents := 0
    adjCents := 0, chargedMin := 0, creditedMin := 0, episode := none, purchases := [], slot := none, changed := false }

/-- R10: the record at index `i` and in the account index, with its binding and need. -/
def State.enrolAt (s : State) (i : Nat) (f : EnrolFields) : State :=
  let s1 := { s with subs := s.subs.set i f.record, accounts := s.accounts.set f.account i }
  match f.tapPort with
  | none => s1
  | some p => (s1.bindPort i p).need .urgent p.tap

/-- R9: the tests of the optional tap port, 5 and 6. -/
def State.tapPortTest (s : State) (p : Option PortRef) : Option Status :=
  match p with
  | none => none
  | some p => match s.taps.get? p.tap with
    | none => some .notFound
    | some t => if (t.boundTo p.port).isSome then some .conflict else none

/-- R9, R10. -/
def enrolOwner (b : List Byte) (s : State) : Served :=
  let f := enrolFields b
  if !f.inRange then s.refuse .badField
  else if s.mode = .live ∧ (subStateOf f.state ≠ some .new ∨ f.money ≠ 0) then s.refuse .wrongMode
  else if (s.accounts.get? f.account).isSome then s.refuse .exists_
  else if 2048 ≤ s.subs.length then s.refuse .full
  else match s.tapPortTest f.tapPort with
    | some status => s.refuse status
    | none => (s.enrolAt s.subs.lowestFree f).served (w16 s.subs.lowestFree)

/-- R9. -/
def execEnrol (body : List Byte) (s : State) : Out := .next (request 19 .both body (enrolOwner body) s)

/-! ## Finding records (R11 to R13) -/

/-- Requests that name an account: NOT_FOUND when it is not in the table, else the rest. -/
def State.withAccount (s : State) (account : Nat) (rest : Nat → Subscriber → Served) : Served :=
  match s.findAccount account with
  | none => s.refuse .notFound
  | some (i, r) => rest i r

/-- R11. -/
def execReadSubscriber (body : List Byte) (s : State) : Out :=
  .next (request 4 .both body (fun s => s.withAccount (u32 body 0) fun i r => s.served (subscriberBody i r)) s)

/-- R12: the lowest account above the one given. -/
def nextSubscriberOwner (b : List Byte) (s : State) : Served :=
  match s.accounts.above (u32 b 0) with
  | none => s.refuse .notFound
  | some (account, _) => s.withAccount account fun i r => s.served (subscriberBody i r)

/-- R12. -/
def execNextSubscriber (body : List Byte) (s : State) : Out := .next (request 4 .both body (nextSubscriberOwner body) s)

/-- R13: the lowest account whose record has its changed flag set. -/
def State.firstChanged (s : State) : Option (Nat × Nat) :=
  s.accounts.find? fun p => match s.subs.get? p.2 with
    | none => false
    | some r => r.changed

/-- R13: the record is returned with its flag as it stood, and the flag is cleared. -/
def nextChangedSubscriberOwner (s : State) : Served :=
  match s.firstChanged with
  | none => s.refuse .notFound
  | some (account, _) => s.withAccount account fun i r =>
      (s.updSub i fun r => { r with changed := false }).served (subscriberBody i r)

/-- R13. -/
def execNextChangedSubscriber (body : List Byte) (s : State) : Out :=
  .next (request 0 .both body nextChangedSubscriberOwner s)

/-! ## States (R14 to R20) -/

/-- R4: ACTIVE, or LAPSED for a record that is short of funds. -/
def Subscriber.byFunds (r : Subscriber) : SubState := if r.purse.short then .lapsed else .active

/-- R14. -/
def execActivate (body : List Byte) (s : State) : Out :=
  .next (request 4 .both body (fun s => s.withAccount (u32 body 0) fun i r =>
    if r.state ≠ .new then s.refuse .badState
    else (s.requestChange i r r.byFunds).served (w8 r.byFunds.code)) s)

/-- R15. -/
def execSuspend (body : List Byte) (s : State) : Out :=
  .next (request 4 .both body (fun s => s.withAccount (u32 body 0) fun i r =>
    if r.state ≠ .active ∧ r.state ≠ .lapsed then s.refuse .badState
    else (s.requestChange i r .suspended).served []) s)

/-- R16. -/
def execResume (body : List Byte) (s : State) : Out :=
  .next (request 4 .both body (fun s => s.withAccount (u32 body 0) fun i r =>
    if r.state ≠ .suspended then s.refuse .badState
    else (s.requestChange i r r.byFunds).served (w8 r.byFunds.code)) s)

/-- R17: the state after a new ceiling: an ACTIVE or LAPSED record is tested against it, any other keeps its state. -/
def Subscriber.retested (r : Subscriber) : SubState :=
  match r.state with
  | .active | .lapsed => r.byFunds
  | .new => .new
  | .suspended => .suspended
  | .closed => .closed

/-- R17. -/
def setCeilingOwner (b : List Byte) (s : State) : Served :=
  if 99999999 < u32 b 4 then s.refuse .badField
  else s.withAccount (u32 b 0) fun i r => match r.purse with
    | .prepaid _ => s.refuse .badState
    | .account owed _ =>
      if r.state = .closed then s.refuse .badState
      else
        let r1 := { r with purse := .account owed (u32 b 4) }
        ((s.updSub i fun _ => r1).requestChange i r1 r1.retested).served (w8 r1.retested.code)

/-- R17. -/
def execSetCeiling (body : List Byte) (s : State) : Out := .next (request 8 .both body (setCeilingOwner body) s)

/-- R152: one entry of the purchase list of a record that is being closed. -/
def State.settlePurchase (s : State) (i id : Nat) : State :=
  match s.events.get? id with
  | none => s
  | some e => match e.state with
    | .scheduled => (s.updEvent id fun e => { e with count := e.count - 1 }).refund i e.price .closing
    | .opened => s.updEvent id fun e => { e with count := e.count - 1 }
    | .ended => match e.walk with
      | some w => if w.refundDue then s.refund i e.price .closing else s
      | none => s
    | .cancelled => s

/-- R18, step 1, R152: the purchase list is emptied, each entry in list order. -/
def State.emptyPurchases (s : State) (i : Nat) (r : Subscriber) : State :=
  (r.purchases.foldl (fun s id => s.settlePurchase i id) s).updSub i fun r => { r with purchases := [] }

/-- R18, step 2: an open outage episode is settled as an episode end. -/
def State.settleEpisode (s : State) (i : Nat) (r : Subscriber) : State :=
  match r.episode with
  | none => s
  | some e => s.endEpisode i e true

/-- R18: the four steps of a served Close Subscriber on the record at index `i`. -/
def State.closeSubscriber (s : State) (i : Nat) (r : Subscriber) : State :=
  let s2 := (s.emptyPurchases i r).settleEpisode i r
  let s3 := s2.requestChange i r .closed
  s3.updSub i fun r => r.finalised (s.finalPeriod i)

/-- R18. -/
def execCloseSubscriber (body : List Byte) (s : State) : Out :=
  .next (request 4 .both body (fun s => s.withAccount (u32 body 0) fun i r =>
    if r.state = .closed then s.refuse .badState
    else (s.closeSubscriber i r).served []) s)

/-- R19, R23: the tap port of a record is released as Unbind does, with its urgent need. -/
def State.unbindRecord (s : State) (i : Nat) (p : Option PortRef) : State :=
  match p with
  | none => s
  | some p => (s.releasePort i p).need .urgent p.tap

/-- R153: the end walks in flight forget a record that leaves its index, since a later record there has bought nothing (log 39). -/
def EventRec.forget (e : EventRec) (i : Nat) : EventRec :=
  { e with walk := e.walk.map fun w => { w with settled := w.settled.filter (· != i) } }

/-- R19. -/
def execRetireSubscriber (body : List Byte) (s : State) : Out :=
  .next (request 4 .both body (fun s => s.withAccount (u32 body 0) fun i r =>
    if r.state ≠ .closed then s.refuse .badState
    else if r.slot.isSome then s.refuse .badState
    else
      let s1 := s.unbindRecord i r.tapPort
      ({ s1 with
        subs := s1.subs.erase i, accounts := s1.accounts.erase (u32 body 0)
        events := s1.events.mapAll fun _ e => e.forget i }).served []) s)

/-- R20. -/
def execChangeTiers (body : List Byte) (s : State) : Out :=
  .next (request 6 .both body (fun s => s.withAccount (u32 body 0) fun i r =>
    if r.state = .closed then s.refuse .badState
    else ((s.updSub i fun r => { r with tiers := tiersAt body 4 }).needFor r.tapPort).served []) s)

/-! ## Bind, Move, Unbind (R21 to R23) -/

/-- R21. -/
def bindOwner (b : List Byte) (s : State) : Served :=
  let tap := u16 b 4
  let port := u8 b 6
  if 511 < tap ∨ !portOk port then s.refuse .badField
  else s.withAccount (u32 b 0) fun i r => match s.taps.get? tap with
    | none => s.refuse .notFound
    | some t =>
      if r.state = .closed then s.refuse .badState
      else if r.tapPort.isSome then s.refuse .badState
      else if (t.boundTo port).isSome then s.refuse .conflict
      else ((s.bindPort i ⟨tap, port⟩).need .urgent tap).served []

/-- R21. -/
def execBind (body : List Byte) (s : State) : Out := .next (request 7 .both body (bindOwner body) s)

/-- Whether a tap's command is in flight. -/
def State.tapInFlight (s : State) (tap : Nat) : Bool :=
  match s.taps.get? tap with
  | none => false
  | some t => t.inFlight

/-- R22: the needs of a Move from tap A to tap B: both, or the one tap once (log 24). -/
def State.moveNeeds (s : State) (a b : Nat) : State :=
  if a = b then s.need .urgent a else (s.need .urgent a).need .urgent b

/-- R22. -/
def moveOwner (b : List Byte) (s : State) : Served :=
  let tap := u16 b 4
  let port := u8 b 6
  if 511 < tap ∨ !portOk port then s.refuse .badField
  else s.withAccount (u32 b 0) fun i r => match s.taps.get? tap with
    | none => s.refuse .notFound
    | some t =>
      if r.state = .closed then s.refuse .badState
      else match r.tapPort with
        | none => s.refuse .badState
        | some old =>
          if (t.boundTo port).isSome then s.refuse .conflict
          else if s.tapInFlight old.tap ∨ t.inFlight then s.refuse .busy
          else (((s.releasePort i old).bindPort i ⟨tap, port⟩).moveNeeds old.tap tap).served []

/-- R22. -/
def execMove (body : List Byte) (s : State) : Out := .next (request 7 .both body (moveOwner body) s)

/-- R23. -/
def execUnbind (body : List Byte) (s : State) : Out :=
  .next (request 4 .both body (fun s => s.withAccount (u32 body 0) fun i r => match r.tapPort with
    | none => s.refuse .badState
    | some p =>
      if r.state ≠ .new ∧ r.state ≠ .closed then s.refuse .badState
      else ((s.releasePort i p).need .urgent p.tap).served []) s)

end Sys2Proof.Machine
end

