-- ==== Sys2Proof/Machine/BillingUnit.lean ====
section
/-! DEFINITION. Chapter 7: the metering pass's visits, the money requests, and the Billing Unit's own requests. -/

namespace Sys2Proof.Machine

/-! ## Visits (R122, R123, R128, R132) -/

/-- R123, R128: a visit meters the record it finds and, in a close pass, closes its period. An index with no record is passed over. -/
def State.visit (s : State) (i : Nat) (closing : Bool) : State :=
  match s.subs.get? i with
  | none => s
  | some r =>
    let s1 := s.meterRecord i r
    if closing then s1.closeRecord i else s1

/-- R122: the pass in flight visits its next index; the pass ends when that was index 2,047. -/
def execMeteringVisit (s : State) : Out :=
  match s.billing.pass with
  | none => .next s
  | some p =>
    let s1 := s.visit p.next p.close.isSome
    if p.next < 2047 then .next { s1 with billing := { s1.billing with pass := some { p with next := p.next + 1 } } }
    else .next (s1.endPass p)

/-! ## Money requests (R134 to R136) -/

/-- R134, R135: an amount of 1 to 99,999,999 cents. -/
def amountOk (n : Nat) : Bool := 1 ≤ n && n ≤ 99999999

/-- R134. -/
def topUpOwner (b : List Byte) (s : State) : Served :=
  if !amountOk (u32 b 4) then s.refuse .badField
  else s.withAccount (u32 b 0) fun i r => match r.purse with
    | .account _ _ => s.refuse .badState
    | .prepaid old =>
      if r.state = .closed then s.refuse .badState
      else
        let after := clampCents (old + u32 b 4)
        let r1 := { r with purse := .prepaid after }
        let state := if r1.restorable then .active else r1.state
        ((s.updSub i fun _ => r1).requestChange i r1 state).served (w32 (after - old) ++ wi32 after ++ w8 state.code)

/-- R134. -/
def execTopUp (body : List Byte) (s : State) : Out := .next (request 8 .both body (topUpOwner body) s)

/-- R135. -/
def postPaymentOwner (b : List Byte) (s : State) : Served :=
  if !amountOk (u32 b 4) then s.refuse .badField
  else s.withAccount (u32 b 0) fun i r => match r.purse with
    | .prepaid _ => s.refuse .badState
    | .account owed ceiling =>
      if r.state = .closed then s.refuse .badState
      else
        let after := clampSigned (owed - u32 b 4)
        let r1 := { r with purse := .account after ceiling }
        let state := if r.state = .lapsed ∧ after ≤ ceiling then .active else r.state
        ((s.updSub i fun _ => r1).requestChange i r1 state).served (wi32 (owed - after) ++ wi32 after ++ w8 state.code)

/-- R135. -/
def execPostPayment (body : List Byte) (s : State) : Out := .next (request 8 .both body (postPaymentOwner body) s)

/-- R136: a record after an adjustment, with the applied amount and the figure after: the money figure the record's mode keeps, owed or the balance, as it
stands after the request (log 42). -/
def Subscriber.adjusted (r : Subscriber) (amount : Int) : Subscriber × Int × Int :=
  match r.purse with
  | .account owed _ =>
    let after := clampSigned (r.adjCents + amount)
    ({ r with adjCents := after }, after - r.adjCents, owed)
  | .prepaid old =>
    let after := max 0 (min ((old : Int) + amount) 99999999)
    ({ r with purse := .prepaid after.toNat, adjCents := clampSigned (r.adjCents - (after - old)) }, after - old, after)

/-- R136: the state a PREPAID record takes after an adjustment; an ACCOUNT record keeps its state. -/
def Subscriber.adjustedState (r : Subscriber) : SubState :=
  if r.state = .active ∧ r.purse.spent then .lapsed
  else if r.restorable then .active
  else r.state

/-- R136. -/
def postAdjustmentOwner (b : List Byte) (s : State) : Served :=
  if i32 b 4 < -99999999 ∨ 99999999 < i32 b 4 then s.refuse .badField
  else s.withAccount (u32 b 0) fun i r =>
    if r.state = .closed then s.refuse .badState
    else
      let (r1, applied, after) := r.adjusted (i32 b 4)
      ((s.updSub i fun _ => r1).requestChange i r1 r1.adjustedState).served
        (wi32 applied ++ wi32 after ++ w8 r1.adjustedState.code)

/-- R136. -/
def execPostAdjustment (body : List Byte) (s : State) : Out :=
  .next (request 8 .both body (postAdjustmentOwner body) s)

/-! ## Statements (R137) -/

/-- Section 11.4: the 45-byte body of a statement. -/
def statementBody (r : Subscriber) (x : Statement) : List Byte :=
  w32 r.account ++ w8 r.purse.modeCode ++ wflag x.final ++ w16 x.firstPeriod ++ w16 x.lastPeriod ++ w8 x.spanned
    ++ w32 x.tier ++ w32 x.credit ++ w32 x.event ++ w32 x.refund ++ wi32 x.adjustment ++ wi32 x.net ++ wi32 x.after
    ++ w24 x.chargedMin ++ w24 x.creditedMin

/-- R137. -/
def collectStatementOwner (b : List Byte) (s : State) : Served :=
  s.withAccount (u32 b 0) fun i r => match r.slot with
    | none => s.refuse .notFound
    | some x => (s.updSub i fun r => { r with slot := none }).served (statementBody r x)

/-- R137. -/
def execCollectStatement (body : List Byte) (s : State) : Out :=
  .next (request 4 .both body (collectStatementOwner body) s)

/-! ## The Billing Unit's own requests (R138 to R140) -/

/-- R138: a close is under way. -/
def State.closeUnderWay (s : State) : Bool :=
  (match s.billing.pass with | none => false | some p => p.close.isSome)
    || (match s.clock.pending with | none => false | some b => b.close.isSome)

/-- R138. In LIVE the period start is present (R120). The response gives it and the new next close, both optional fields (section 7.1, R180). -/
def setNextCloseOwner (b : List Byte) (s : State) : Served :=
  let minute := u32 b 0
  let start := s.billing.start.getD 0
  if s.closeUnderWay then s.refuse .badState
  else if minute ≤ s.clock.minute ∨ minute < start + 1 ∨ start + 44640 < minute then s.refuse .badField
  else { s with billing := { s.billing with nextClose := some minute } }.served
    (wopt 4 w32 s.billing.start ++ wopt 4 w32 (some minute))

/-- R138. -/
def execSetNextClose (body : List Byte) (s : State) : Out := .next (request 4 .liveOnly body (setNextCloseOwner body) s)

/-- R139. -/
def setBillingOwner (b : List Byte) (s : State) : Served :=
  if u16 b 0 < 1440 ∨ 44640 < u16 b 0 ∨ 10080 < u16 b 2 then s.refuse .badField
  else { s with billing := { s.billing with length := u16 b 0, threshold := u16 b 2 } }.served []

/-- R139. -/
def execSetBillingParameters (body : List Byte) (s : State) : Out := .next (request 4 .both body (setBillingOwner body) s)

/-- R140: a pass in flight: METERING 0x00 or CLOSE 0x01, the minute metered, the next index, the close minute,
which goes with a presence byte, 0 for METERING (the model's choice, log 48). -/
def passBody (p : Pass) : List Byte := wflag p.close.isSome ++ w32 p.minute ++ w16 p.next ++ wopt 4 w32 p.close

/-- R140: the body of Read Billing. -/
def billingBody (b : Billing) : List Byte :=
  w16 b.period ++ wopt 4 w32 b.start ++ wopt 4 w32 b.nextClose ++ w16 b.length ++ w16 b.threshold ++ w16 b.slipped
    ++ wopt 12 passBody b.pass

/-- R140. -/
def execReadBilling (body : List Byte) (s : State) : Out :=
  .next (request 0 .both body (fun s => s.served (billingBody s.billing)) s)

end Sys2Proof.Machine
end

