-- ==== Sys2Proof/Machine/LineUp.lean ====
section
/-! DEFINITION. Chapter 2: the channel slots, their staged changes and dark flags, the tiers, and the Line-Up Table's taking of a minute
boundary. -/

namespace Sys2Proof.Machine

/-! ## Definitions (R26) -/

/-- R26: an UNUSED definition is stored with its label, required tier NONE and both flags clear. -/
def Definition.stored (d : Definition) : Definition :=
  match d.state with
  | .carried => d
  | .unused => { d with tier := none, pay := false, lifeline := false }

/-- R26, R180: a definition read from a body, as it is stored: none when a test of R26 fails. -/
def definitionAt (b : List Byte) (at_ : Nat) : Option Definition :=
  match slotStateOf (u8 b at_), requiredTierOf (u8 b (at_ + 9)) with
  | some state, some tier =>
    let flags := b.getD (at_ + 10) 0#8
    if flags.getLsbD 0 && flags.getLsbD 1 then none
    else some (Definition.stored ⟨state, labelAt b (at_ + 1), tier, flags.getLsbD 0, flags.getLsbD 1⟩)
  | _, _ => none

/-- R28. -/
def defineChannelOwner (b : List Byte) (s : State) : Served :=
  let slot := u8 b 0
  if 95 < slot then s.refuse .badField
  else match definitionAt b 1 with
    | none => s.refuse .badField
    | some d =>
      if !s.passesLive slot d none then s.refuse .conflict
      else ((s.updSlot slot fun x => { x with current := d }).requestSweep .all).served []

/-- R28. -/
def execDefineChannel (body : List Byte) (s : State) : Out :=
  .next (request 12 .loadingOnly body (defineChannelOwner body) s)

/-- The staged change of a slot. -/
def State.stagedAt (s : State) (slot : Nat) : Option Staged :=
  match s.slots[slot]? with
  | none => none
  | some x => x.staged

/-- R29. -/
def stageChannelOwner (b : List Byte) (s : State) : Served :=
  let slot := u8 b 0
  if 95 < slot then s.refuse .badField
  else match definitionAt b 1 with
    | none => s.refuse .badField
    | some d =>
      if !s.passesLive slot d none then s.refuse .conflict
      else (s.updSlot slot fun x => { x with staged := some ⟨d, u32 b 12⟩ }).served
        (wflag (s.stagedAt slot).isSome ++ wflag (u32 b 12 ≤ s.clock.minute))

/-- R29. -/
def execStageChannelChange (body : List Byte) (s : State) : Out :=
  .next (request 16 .both body (stageChannelOwner body) s)

/-- R30. -/
def withdrawStagedOwner (b : List Byte) (s : State) : Served :=
  let slot := u8 b 0
  if 95 < slot then s.refuse .badField
  else if (s.stagedAt slot).isNone then s.refuse .notFound
  else (s.updSlot slot fun x => { x with staged := none }).served []

/-- R30. -/
def execWithdrawStagedChange (body : List Byte) (s : State) : Out :=
  .next (request 1 .both body (withdrawStagedOwner body) s)

/-- R34: the body of Read Channel. -/
def channelBody (x : Slot) : List Byte :=
  wdefinition x.current ++ wopt 15 (fun g : Staged => wdefinition g.defn ++ w32 g.effective) x.staged
    ++ wflag x.dark ++ wstage x.lastStage

/-- R34. -/
def readChannelOwner (b : List Byte) (s : State) : Served :=
  match s.slots[u8 b 0]? with
  | none => s.refuse .badField
  | some x => if 95 < u8 b 0 then s.refuse .badField else s.served (channelBody x)

/-- R34. -/
def execReadChannel (body : List Byte) (s : State) : Out := .next (request 1 .both body (readChannelOwner body) s)

/-! ## The boundary (R31 to R33) -/

/-- R32: a slot whose staged change falls due at the boundary into minute `n`; `passes` is the live-event test's answer. -/
def Slot.fallDue (x : Slot) (g : Staged) (n : Nat) (passes : Bool) : Slot :=
  if passes then { x with current := g.defn, staged := none, lastStage := .applied n }
  else { x with staged := none, lastStage := .discarded n }

/-- R31, R32: slot `i` at the boundary into minute `n`. -/
def State.slotBoundary (s : State) (n i : Nat) : State :=
  match s.stagedAt i with
  | none => s
  | some g =>
    if n < g.effective then s
    else
      let passes := s.passesLive i g.defn (some n)
      let s1 := s.updSlot i fun x => x.fallDue g n passes
      if passes then s1.requestSweep .all else s1

/-- R31: the Line-Up Table takes the oldest boundary announced to it (log 5). -/
def execLineupTakesBoundary (s : State) : Out :=
  match s.announced.lineUp with
  | [] => .next s
  | n :: later =>
    .next ((List.range 96).foldl (fun s i => s.slotBoundary n i)
      { s with announced := { s.announced with lineUp := later } })

/-! ## Dark flags (R35, R36) -/

/-- R35: a slot's dark flag is worked out again from the CARRIER inputs, and CHANNEL_DARK is raised or ended where the flag changes. -/
def State.refreshDark (s : State) (slot : Nat) : State :=
  match s.slots[slot]? with
  | none => s
  | some x =>
    let dark := s.darkNow slot
    (s.updSlot slot fun x => { x with dark := dark }).followCondition .channelDark slot x.dark dark

/-! ## Tiers (R38 to R42) -/

/-- R39. -/
def execDefineTier (body : List Byte) (s : State) : Out :=
  .next (request 11 .loadingOnly body (fun s =>
    if 15 < u8 body 0 then s.refuse .badField
    else (s.updTier (u8 body 0) fun t => { t with rate := u16 body 1, label := labelAt body 3 }).served []) s)

/-- The staged rate of a tier. -/
def State.stagedRate (s : State) (tier : Nat) : Option Nat :=
  match s.tiers[tier]? with
  | none => none
  | some t => t.staged

/-- R40. -/
def execStageTierRate (body : List Byte) (s : State) : Out :=
  .next (request 3 .liveOnly body (fun s =>
    if 15 < u8 body 0 then s.refuse .badField
    else (s.updTier (u8 body 0) fun t => { t with staged := some (u16 body 1) }).served
      (wflag (s.stagedRate (u8 body 0)).isSome)) s)

/-- R42: the body of Read Tier. -/
def tierBody (t : Tier) : List Byte := w16 t.rate ++ wopt 2 w16 t.staged ++ t.label

/-- R42. -/
def readTierOwner (b : List Byte) (s : State) : Served :=
  match s.tiers[u8 b 0]? with
  | none => s.refuse .badField
  | some t => if 15 < u8 b 0 then s.refuse .badField else s.served (tierBody t)

/-- R42. -/
def execReadTier (body : List Byte) (s : State) : Out := .next (request 1 .both body (readTierOwner body) s)

end Sys2Proof.Machine
end

