-- ==== Sys2Proof/Machine/Contacts.lean ====
section
/-! DEFINITION. Chapter 9, sections 9.1: the contact inputs. -/

namespace Sys2Proof.Machine

/-- R158: what a change of the debounced level to `level` does, by role and sense. -/
def State.contactChanged (s : State) (input : Nat) (x : Input) (level : Level) : State :=
  match x.role with
  | .none => s
  | .carrier => s.refreshDark x.slot
  | .plain => match x.sense with
    | .rising => if level = .high then s.raiseOccurrence .contact input else s
    | .falling => if level = .low then s.raiseOccurrence .contact input else s
    | .both => s.raiseOccurrence .contact input
    | .levelHigh | .levelLow =>
      if some level = x.sense.sensed then
        (s.updInput input fun x => { x with standing := true }).raiseCondition .contact input
      else (s.updInput input fun x => { x with standing := false }).endAlarm .contact input

/-- R157, R158: the debounced level of an input takes its pin level; the change is stamped and acted on. -/
def State.takeLevel (s : State) (input : Nat) (x : Input) : State :=
  (s.updInput input fun x => { x with level := x.pin, timer := none, stamp := some s.now }).contactChanged input x x.pin

/-- R157: the pin of an input takes a level. With a debounce of 0 ms the change is taken at once (log 21). -/
def execPinLevelChange (input : Nat) (level : Level) (s : State) : Out :=
  match s.inputs[input]? with
  | none => .next s
  | some x =>
    if x.pin = level then .next s
    else
      let s1 := s.updInput input fun x => { x with pin := level, timer := if level = x.level then none else some 0 }
      if level ≠ x.level ∧ x.debounce = 0 then .next (s1.takeLevel input { x with pin := level }) else .next s1

/-- R157: an input's debounce timer runs and has reached the debounce time. -/
def Input.due (x : Input) : Bool :=
  match x.timer with
  | none => false
  | some t => x.debounce ≤ t

/-- R157: a running debounce timer reaches the debounce time (log 3): before that moment nothing happens. -/
def execDebounceTimerExpiry (input : Nat) (s : State) : Out :=
  match s.inputs[input]? with
  | none => .next s
  | some x => if x.due then .next (s.takeLevel input x) else .next s

/-! ## Configure Input (R159) -/

/-- R159: the configuration a body gives: none when a test fails. -/
def configAt (b : List Byte) : Option (Role × Nat × Sense × Nat) :=
  match roleOf (u8 b 1), senseOf (u8 b 3) with
  | some role, some sense =>
    if 31 < u8 b 0 then none
    else if 2550 < u16 b 4 ∨ u16 b 4 % 10 ≠ 0 then none
    else if role = .carrier ∧ 95 < u8 b 2 then none
    else if role = .carrier ∧ !sense.isLevel then none
    else some (role, u8 b 2, sense, u16 b 4)
  | _, _ => none

/-- R158: the type of CONTACT a sense gives. -/
def Sense.contactType (x : Sense) : AlarmType := if x.isLevel then .condition else .occurrence

/-- R159, step 1. -/
def State.endStanding (s : State) (input : Nat) (x : Input) : State :=
  if x.standing then (s.updInput input fun x => { x with standing := false }).endAlarm .contact input else s

/-- R159, step 2: a CONTACT entry whose type differs from the type the new sense gives is removed. -/
def State.dropOtherType (s : State) (input : Nat) (type : AlarmType) : State :=
  match s.alarms.find? .contact input with
  | none => s
  | some e => if e.type = type then s else { s with alarms := s.alarms.remove .contact input }

/-- R159, step 3: the input leaves the role CARRIER, and its old slot's flag is worked out from the inputs that remain (R36). -/
def State.leaveCarrier (s : State) (input : Nat) (x : Input) : State :=
  if x.role = .carrier then (s.updInput input fun x => { x with role := .none }).refreshDark x.slot else s

/-- R159, steps 4 to 6. -/
def State.applyConfig (s : State) (input : Nat) (x : Input) (c : Role × Nat × Sense × Nat) : State :=
  let s1 := s.updInput input fun x =>
    { x with role := c.1, slot := c.2.1, sense := c.2.2.1, debounce := c.2.2.2, timer := x.timer.map fun _ => 0 }
  match c.1 with
  | .none => s1
  | .carrier => s1.refreshDark c.2.1
  | .plain =>
    if some x.level = c.2.2.1.sensed then
      (s1.updInput input fun x => { x with standing := true }).raiseCondition .contact input
    else s1

/-- R159: a served Configure Input. -/
def State.configure (s : State) (input : Nat) (x : Input) (c : Role × Nat × Sense × Nat) : State :=
  let s1 := s.endStanding input x
  let s2 := if c.1 = .plain then s1.dropOtherType input c.2.2.1.contactType else s1
  (s2.leaveCarrier input x).applyConfig input x c

/-- R159. -/
def configureInputOwner (b : List Byte) (s : State) : Served :=
  match configAt b, s.inputs[u8 b 0]? with
  | some c, some x => (s.configure (u8 b 0) x c).served (w8 (levelCode x.level))
  | _, _ => s.refuse .badField

/-- R159. -/
def execConfigureInput (body : List Byte) (s : State) : Out :=
  .next (request 6 .both body (configureInputOwner body) s)

/-! ## Read Inputs (R160) -/

/-- R160: one input of the body of Read Inputs. -/
def inputBody (x : Input) : List Byte :=
  w8 x.role.code ++ w8 x.slot ++ w8 x.sense.code ++ w16 x.debounce ++ w8 (levelCode x.pin) ++ w8 (levelCode x.level)
    ++ wflag x.timer.isSome ++ wopt 5 wstamp x.stamp ++ wflag x.standing

/-- R160. -/
def execReadInputs (body : List Byte) (s : State) : Out :=
  .next (request 0 .both body (fun s => s.served (s.inputs.flatMap inputBody)) s)

end Sys2Proof.Machine
end

