-- ==== Sys2Proof/Machine/Clock.lean ====
section
/-! DEFINITION. Chapter 6: second edges, the reference pulse and its loss, minute boundaries, and the clock requests; and the passing of
time on an empty queue (log 4). -/

namespace Sys2Proof.Machine

/-! ## Boundaries and edges (R109, R113 to R115) -/

/-- R113: the minute counter wraps from 4,294,967,295 to 0. -/
def nextMinute (m : Nat) : Nat := (m + 1) % 4294967296

/-- R113: the boundary into minute `n` is announced to the blocks that take it as a command of their own. -/
def State.announce (s : State) (n : Nat) : State :=
  { s with announced := ⟨s.announced.lineUp ++ [n], s.announced.events ++ [n], s.announced.taps ++ [n]⟩ }

/-- R115: the close mark of the boundary into minute `n`: the close minute it carries. -/
def Billing.closeMark (b : Billing) (n : Nat) : Option Nat := if b.nextClose = some n then some n else none

/-- R113, R114: a minute boundary: the counter rises, the boundary is announced and, in LIVE, handed to the Billing Unit. -/
def State.minuteBoundary (s : State) : State :=
  let n := nextMinute s.clock.minute
  let s1 := ({ s with clock := { s.clock with minute := n } }).announce n
  match s.mode with
  | .loading => s1
  | .live => s1.handBoundary ⟨s.clock.minute, s.billing.closeMark n⟩

/-- R109, R110: a second edge: the second count rises by one, the phase restarts, and the pulse mark says whether a pulse placed it. -/
def State.secondEdge (s : State) (byPulse : Bool) : State :=
  let second := (s.clock.second + 1) % 60
  let s1 := { s with clock := { s.clock with second := second, phase := 0, pulseMark := byPulse } }
  if s.clock.second = 59 then s1.minuteBoundary else s1

/-- R109: the second phase has reached 1 s on the crystal. -/
def TimeBase.edgeDue (c : TimeBase) : Bool := 1000 ≤ c.phase

/-- R109: the crystal makes a second edge when the second phase has reached 1 s. Before that it makes none: a phase that a pulse (R110) or a clock request
(R116, R117) has restarted makes no edge (log 3). -/
def execSecondEdge (s : State) : Out := if s.clock.edgeDue then .next (s.secondEdge false) else .next s

/-! ## The reference (R110 to R112) -/

/-- R110, R111: a pulse is taken: it is counted, the loss timer restarts, and the state becomes TRACKING, ending a holdover. -/
def State.pulseTaken (s : State) : State :=
  let s1 := { s with clock := { s.clock with
    taken := up16 s.clock.taken, lossTimer := some 0, ref := .tracking, holdover := none } }
  if s.clock.ref = .holdover then s1.endAlarm .refLost 0 else s1

/-- R110: a rising edge on REF. A pulse that makes an edge ends a holdover, and with it REF_LOST, before the edge makes a boundary that may raise METER_SLIP
(the model's choice, log 37). -/
def execReferencePulse (s : State) : Out :=
  if s.clock.ref = .notSelected then .next s
  else if 500 ≤ s.clock.phase then .next (s.pulseTaken.secondEdge true)
  else if s.clock.pulseMark then .next { s with clock := { s.clock with ignored := up16 s.clock.ignored } }
  else
    let s1 := s.pulseTaken
    .next { s1 with clock := { s1.clock with phase := 0, pulseMark := true } }

/-- R111: the loss timer runs and has reached 3 s. -/
def TimeBase.lossDue (c : TimeBase) : Bool :=
  match c.lossTimer with
  | none => false
  | some t => 3000 ≤ t

/-- R111: the reference is lost: the state becomes HOLDOVER, stamped and counted, and REF_LOST is raised. -/
def State.loseReference (s : State) : State :=
  ({ s with clock := { s.clock with
    ref := .holdover, lossTimer := none, holdover := some s.now, holdovers := up16 s.clock.holdovers } }).raiseCondition .refLost 0

/-- R111: the loss timer, running in ACQUIRING and TRACKING, reaches 3 s (log 3): before that moment nothing happens. -/
def execLossTimerExpiry (s : State) : Out :=
  match s.clock.ref with
  | .notSelected | .holdover => .next s
  | .acquiring | .tracking => if s.clock.lossDue then .next s.loseReference else .next s

/-- R112: the effect of selecting or deselecting the reference. -/
def State.setReference (s : State) (select : Bool) : State :=
  if select then
    if s.clock.ref = .notSelected then
      { s with clock := { s.clock with ref := .acquiring, lossTimer := some 0, pulseMark := false } }
    else s
  else
    let s1 := { s with clock := { s.clock with ref := .notSelected, lossTimer := none, holdover := none } }
    if s.clock.ref = .notSelected then s
    else if s.clock.ref = .holdover then s1.endAlarm .refLost 0 else s1

/-- R112. -/
def execSetReference (body : List Byte) (s : State) : Out :=
  .next (request 1 .both body (fun s =>
    let s1 := s.setReference (flagAt body 0)
    s1.served (w8 s1.clock.ref.code)) s)

/-! ## Setting and reading the clock (R116, R117, R119) -/

/-- R116. -/
def setClockOwner (b : List Byte) (s : State) : Served :=
  if 59 < u8 b 4 then s.refuse .badField
  else if s.mode = .live then s.refuse .badState
  else { s with clock := { s.clock with minute := u32 b 0, second := u8 b 4, phase := 0, pulseMark := false } }.served []

/-- R116. -/
def execSetClock (body : List Byte) (s : State) : Out := .next (request 5 .both body (setClockOwner body) s)

/-- R117. -/
def adjustClockOwner (b : List Byte) (s : State) : Served :=
  if 59 < u8 b 0 then s.refuse .badField
  else { s with clock := { s.clock with second := u8 b 0, phase := 0, pulseMark := false } }.served
    (w32 s.clock.minute ++ w8 (u8 b 0))

/-- R117. -/
def execAdjustClock (body : List Byte) (s : State) : Out := .next (request 1 .both body (adjustClockOwner body) s)

/-- R119: the body of Read Clock; the loss timer in tenths of a second, whole ones (log 20). Neither section 6.1 nor
R180 says how a stopped loss timer is sent: the model sends it as an absent optional field, a presence byte 0 and one zero byte (the model's choice, log 48). -/
def clockBody (c : TimeBase) : List Byte :=
  w32 c.minute ++ w8 c.second ++ wflag c.selected ++ w8 c.ref.code ++ wopt 1 (fun ms => w8 (ms / 100)) c.lossTimer
    ++ wopt 5 wstamp c.holdover
    ++ wopt 5 (fun b : HeldBoundary => w32 b.minute ++ wflag b.close.isSome) c.pending
    ++ w16 c.taken ++ w16 c.ignored ++ w16 c.holdovers

/-- R119. -/
def execReadClock (body : List Byte) (s : State) : Out :=
  .next (request 0 .both body (fun s => s.served (clockBody s.clock)) s)

/-! ## The passing of time (log 4) -/

/-- Whether a leg's timer has run out and its expiry waits to be taken. -/
def Leg.due (l : Leg) : Bool := (l.txn.isSome && l.tryTimer == 0) || l.pollTimer == some 0

/-- Whether some timed event is due. -/
def State.eventDue (s : State) : Bool :=
  s.clock.edgeDue || s.clock.lossDue || s.legs.any Leg.due || s.inputs.any Input.due

/-- One ms on a leg: the try timer of a transaction and the poll cycle timer run down. -/
def Leg.tick (l : Leg) : Leg :=
  { l with tryTimer := if l.txn.isSome then l.tryTimer - 1 else l.tryTimer, pollTimer := l.pollTimer.map (· - 1) }

/-- One ms passes, unless a timed event is due: then no time passes before its command is taken. -/
def State.tick (s : State) : State :=
  if s.eventDue then s
  else { s with
    clock := { s.clock with phase := s.clock.phase + 1, lossTimer := s.clock.lossTimer.map (· + 1) }
    legs := s.legs.map Leg.tick
    inputs := s.inputs.map fun x => { x with timer := x.timer.map (· + 1) } }

end Sys2Proof.Machine
end

