-- ==== Sys2Proof/Machine/Events.lean ====
section
/-! DEFINITION. Chapter 8: pay events, their minute boundaries and end walks, purchases and refunds. -/

namespace Sys2Proof.Machine

/-! ## Define Event (R143) -/

/-- R143, test 5: two windows overlap when each opens before the other closes. -/
def EventRec.overlaps (e : EventRec) (openMinute closeMinute : Nat) : Bool :=
  e.openMinute < closeMinute && openMinute < e.closeMinute

/-- R143, test 5: an event that is SCHEDULED or OPEN on the slot overlaps the window. -/
def State.windowTaken (s : State) (slot openMinute closeMinute : Nat) : Bool :=
  s.events.any fun p =>
    p.2.slot == slot && (p.2.state = .scheduled || p.2.state = .opened) && p.2.overlaps openMinute closeMinute

/-- R143, test 4: the slot's current definition is CARRIED with PAY. -/
def State.slotPays (s : State) (slot : Nat) : Bool :=
  match s.slots[slot]? with
  | none => false
  | some x => x.current.state = .carried && x.current.pay

/-- R143: the event a body describes: slot, open minute, close minute, price, purchase cutoff, in SCHEDULED. -/
def eventAt (b : List Byte) : EventRec := ⟨u8 b 2, u32 b 3, u32 b 7, u32 b 11, u16 b 15, .scheduled, 0, 0, none⟩

/-- R143, test 1. -/
def eventInRange (id : Nat) (e : EventRec) (now : Nat) : Bool :=
  id ≠ 0 && e.slot ≤ 95 && e.openMinute < e.closeMinute && e.closeMinute ≤ e.openMinute + 1440 && now < e.closeMinute
    && e.price ≤ 99999 && e.cutoff ≤ 1440

/-- R143. -/
def defineEventOwner (b : List Byte) (s : State) : Served :=
  let id := u16 b 0
  let e := eventAt b
  if !eventInRange id e s.clock.minute then s.refuse .badField
  else if (s.events.get? id).isSome then s.refuse .exists_
  else if 32 ≤ s.events.length then s.refuse .full
  else if !s.slotPays e.slot then s.refuse .badState
  else if s.windowTaken e.slot e.openMinute e.closeMinute then s.refuse .conflict
  else { s with events := s.events.set id e }.served []

/-- R143. -/
def execDefineEvent (body : List Byte) (s : State) : Out := .next (request 17 .both body (defineEventOwner body) s)

/-! ## The boundary (R144) -/

/-- R144, step 1: the dark minute of an OPEN event whose slot is dark at this reading. There is no cap at the window's length: R144 says that the
dark minutes never exceed it, but step 1 can take them past it where a Set Clock in LOADING has put the minute back (the model's choice, log 49). -/
def EventRec.darkened (e : EventRec) (dark : Bool) : EventRec :=
  if e.state = .opened ∧ dark then { e with dark := e.dark + 1 } else e

/-- R144, step 2: a SCHEDULED event whose open minute is at or before `n` opens. -/
def EventRec.opens (e : EventRec) (n : Nat) : Bool := e.state = .scheduled && e.openMinute ≤ n

/-- R144, step 3: an OPEN event whose close minute is at or before `n` ends. -/
def EventRec.ends (e : EventRec) (n : Nat) : Bool := e.state = .opened && e.closeMinute ≤ n

/-- R144: the work of the boundary into minute `n` on event `id`, whole. -/
def State.eventBoundary (s : State) (n id : Nat) : State :=
  match s.events.get? id with
  | none => s
  | some e =>
    let e1 := e.darkened (s.slotDark e.slot)
    let opens := e1.opens n
    let e2 := if opens then { e1 with state := .opened } else e1
    let ends := e2.ends n
    let e3 := if ends then { e2 with state := .ended, walk := some ⟨0, s.darkThreshold ≤ e2.dark, []⟩ } else e2
    let s1 := s.updEvent id fun _ => e3
    let s2 := if opens then s1.requestSweep .all else s1
    if ends then s2.requestSweep .all else s2

/-- R144: the Event Table takes the oldest boundary announced to it (log 5). -/
def execEventTableTakesBoundary (s : State) : Out :=
  match s.announced.events with
  | [] => .next s
  | n :: later =>
    .next ((s.events.map Prod.fst).foldl (fun s id => s.eventBoundary n id)
      { s with announced := { s.announced with events := later } })

/-! ## The end walk (R145) -/

/-- R145: the purchase list of the record at an index names the event. -/
def State.names (s : State) (i id : Nat) : Bool :=
  match s.subs.get? i with
  | none => false
  | some r => r.purchases.contains id

/-- R145: the walk after a visit that is not its last: it has moved on, and has settled the record whose list named the event (log 39). -/
def EndWalk.visited (w : EndWalk) (named : Bool) : EndWalk :=
  { w with next := w.next + 1, settled := if named then w.settled ++ [w.next] else w.settled }

/-- R145: an end walk's visit to a subscriber index. -/
def State.walkVisit (s : State) (id price i : Nat) (refundDue : Bool) : State :=
  match s.subs.get? i with
  | none => s
  | some r =>
    if r.purchases.contains id then
      let s1 := s.updSub i fun r => { r with purchases := r.purchases.filter (· != id) }
      if refundDue then s1.refund i price .automatic else s1
    else s

/-- R145: the end walk of an event visits its next index; after index 2,047 the walk is over and EVENT_REFUND is raised if refund was
due. -/
def execEndWalkVisit (event : Nat) (s : State) : Out :=
  match s.events.get? event with
  | none => .next s
  | some e => match e.walk with
    | none => .next s
    | some w =>
      let s1 := s.walkVisit event e.price w.next w.refundDue
      if w.next < 2047 then .next (s1.updEvent event fun e => { e with walk := some (w.visited (s.names w.next event)) })
      else
        let s2 := s1.updEvent event fun e => { e with walk := none }
        .next (if w.refundDue then s2.raiseOccurrence .eventRefund event else s2)

/-! ## Purchases (R147 to R149) -/

/-- R147, test 8: the money test. -/
def Subscriber.affords (r : Subscriber) (price : Nat) : Bool :=
  match r.purse with
  | .prepaid b => price < b
  | .account owed ceiling => owed + r.eventCents + price ≤ ceiling

/-- R147, test 5: the event takes no purchase. -/
def EventRec.shut (e : EventRec) (now : Nat) (restore : Bool) : Bool :=
  match e.state with
  | .ended | .cancelled => true
  | .scheduled => false
  | .opened => !restore && e.openMinute + e.cutoff ≤ now

/-- R148: a record with an event bought. -/
def Subscriber.bought (r : Subscriber) (id price : Nat) (restore : Bool) : Subscriber :=
  let r1 := { r with purchases := r.purchases ++ [id] }
  if restore then r1
  else { r1 with
    purse := match r.purse with
      | .prepaid b => .prepaid (b - price)
      | .account owed ceiling => .account owed ceiling
    eventCents := clampCents (r.eventCents + price) }

/-- R147, test 4: the record cannot buy. -/
def Subscriber.cannotBuy (r : Subscriber) (restore : Bool) : Bool :=
  if restore then r.state = .closed else r.state ≠ .active

/-- R148: a served Purchase. -/
def State.purchase (s : State) (i id : Nat) (r : Subscriber) (e : EventRec) (restore : Bool) : Served :=
  let r1 := r.bought id e.price restore
  let s1 := (s.updSub i fun _ => r1).updEvent id fun e => { e with count := e.count + 1 }
  let s2 := if e.state = .opened then s1.needFor r.tapPort else s1
  s2.served (w32 (if restore then 0 else e.price) ++ wi32 r1.purse.figure ++ w16 (e.count + 1))

/-- R147. -/
def purchaseOwner (b : List Byte) (s : State) : Served :=
  let id := u16 b 4
  let restore := flagAt b 6
  if id = 0 then s.refuse .badField
  else if restore ∧ s.mode = .live then s.refuse .wrongMode
  else s.withAccount (u32 b 0) fun i r => match s.events.get? id with
    | none => s.refuse .notFound
    | some e =>
      if r.cannotBuy restore then s.refuse .badState
      else if e.shut s.clock.minute restore then s.refuse .badState
      else if r.purchases.contains id then s.refuse .exists_
      else if 4 ≤ r.purchases.length then s.refuse .full
      else if !restore ∧ !r.affords e.price then s.refuse .funds
      else s.purchase i id r e restore

/-- R147, R148. -/
def execPurchase (body : List Byte) (s : State) : Out := .next (request 7 .both body (purchaseOwner body) s)

/-- The state of the record at an index, for a response. -/
def State.stateCodeAt (s : State) (i : Nat) : Nat :=
  match s.subs.get? i with
  | none => 0
  | some r => r.state.code

/-- R149: the amount a refund of `price` returns to a record (log 23). -/
def Subscriber.refundable (r : Subscriber) (price : Nat) : Nat :=
  match r.purse with
  | .prepaid b => clampCents (b + price) - b
  | .account _ _ => price

/-- R153: the end walk of the event is in flight and has taken the event from the list of the record at an index. -/
def EventRec.settled (e : EventRec) (i : Nat) : Bool :=
  match e.walk with
  | none => false
  | some w => w.settled.contains i

/-- R149, in the order of its tests, and R153: while an end walk is in flight, a purchase that it has settled is refused BAD_STATE as it was before the
visit (log 39). -/
def withdrawPurchaseOwner (b : List Byte) (s : State) : Served :=
  let id := u16 b 4
  s.withAccount (u32 b 0) fun i r => match s.events.get? id with
    | none => s.refuse .notFound
    | some e =>
      if !r.purchases.contains id then s.refuse (if e.settled i then .badState else .notFound)
      else if e.state ≠ .scheduled then s.refuse .badState
      else
        let s1 := s.updSub i fun r => { r with purchases := r.purchases.filter (· != id) }
        let s2 := s1.updEvent id fun e => { e with count := e.count - 1 }
        let s3 := s2.refund i e.price .request
        s3.served (w32 (r.refundable e.price) ++ w8 (s3.stateCodeAt i))

/-- R149. -/
def execWithdrawPurchase (body : List Byte) (s : State) : Out :=
  .next (request 6 .both body (withdrawPurchaseOwner body) s)

/-! ## Cancelling and removing (R150, R151) -/

/-- R150: the indexes of the records whose purchase list names an event. -/
def State.purchasers (s : State) (id : Nat) : List Nat :=
  (s.subs.filter fun p => p.2.purchases.contains id).map Prod.fst

/-- R150: every purchaser of a cancelled event has the id removed and the price refunded, in an order the manual leaves open (log 8). -/
def State.refundAll (s : State) (id price : Nat) : State :=
  let order := arrange s.free (s.purchasers id)
  let s1 := order.foldl (fun s i => s.walkVisit id price i true) s
  { s1 with free := s1.free + order.length }

/-- R150. -/
def cancelEventOwner (b : List Byte) (s : State) : Served :=
  let id := u16 b 0
  match s.events.get? id with
  | none => s.refuse .notFound
  | some e =>
    if e.state = .ended ∨ e.state = .cancelled then s.refuse .badState
    else
      let s1 := (s.updEvent id fun e => { e with state := .cancelled }).refundAll id e.price
      let s2 := if e.state = .opened then s1.requestSweep .all else s1
      s2.served (w16 (s.purchasers id).length)

/-- R150. -/
def execCancelEvent (body : List Byte) (s : State) : Out := .next (request 2 .both body (cancelEventOwner body) s)

/-- R151. -/
def removeEventOwner (b : List Byte) (s : State) : Served :=
  let id := u16 b 0
  match s.events.get? id with
  | none => s.refuse .notFound
  | some e =>
    if e.state = .scheduled ∨ e.state = .opened then s.refuse .badState
    else if e.state = .ended ∧ e.walk.isSome then s.refuse .badState
    else { s with events := s.events.erase id }.served (w16 e.count ++ w16 e.dark)

/-- R151. -/
def execRemoveEvent (body : List Byte) (s : State) : Out := .next (request 2 .both body (removeEventOwner body) s)

/-! ## Parameters and reads (R154, R155) -/

/-- R154. -/
def execSetEventParameters (body : List Byte) (s : State) : Out :=
  .next (request 1 .both body (fun s =>
    if u8 body 0 < 1 then s.refuse .badField
    else { s with darkThreshold := u8 body 0 }.served []) s)

/-- R155: the body of Read Event. -/
def eventBody (e : EventRec) : List Byte :=
  w8 e.slot ++ w32 e.openMinute ++ w32 e.closeMinute ++ w32 e.price ++ w16 e.cutoff ++ w8 e.state.code ++ w16 e.dark
    ++ w16 e.count ++ wopt 3 (fun w : EndWalk => w16 w.next ++ wflag w.refundDue) e.walk

/-- R155. -/
def readEventOwner (b : List Byte) (s : State) : Served :=
  match s.events.get? (u16 b 0) with
  | none => s.refuse .notFound
  | some e => s.served (eventBody e)

/-- R155. -/
def execReadEvent (body : List Byte) (s : State) : Out := .next (request 2 .both body (readEventOwner body) s)

/-- R155: the event with the lowest id greater than the one given. -/
def nextEventOwner (b : List Byte) (s : State) : Served :=
  match s.events.above (u16 b 0) with
  | none => s.refuse .notFound
  | some (_, e) => s.served (eventBody e)

/-- R155. -/
def execNextEvent (body : List Byte) (s : State) : Out := .next (request 2 .both body (nextEventOwner body) s)

end Sys2Proof.Machine
end

