-- ==== Sys2Proof/Machine/PlantOps.lean ====
section
/-! DEFINITION. The shared operations of the Plant Topology Table (R93 to R103) and of a leg's transactions (R52 to R58, R67 to R71, R76,
R77, R80). -/

namespace Sys2Proof.Machine

/-! ## Elements -/

/-- R95, step 3: a descendant is shadowed; `since` is the DOWN element's unreachable-since. -/
def Element.shadow (x : Element) (since : Option Nat) : Element :=
  { x with
    state := .shadowed, miss := 0, since := (match x.since with | some m => some m | none => since)
    pollDue := false, priority := false }

/-- The descendants of an element that a test admits, in index order. -/
def State.descendants (s : State) (e : Nat) (test : Element → Bool) : List Nat :=
  (s.elements.filter fun p => p.1 != e && s.under e p.1 && test p.2).map Prod.fst

/-- End ELEMENT_DOWN for each of some elements. -/
def State.endDowns (s : State) (elements : List Nat) : State :=
  elements.foldl (fun s x => s.endAlarm .elementDown x) s

/-- R95: an element becomes DOWN: its state, the raise of ELEMENT_DOWN, then the shadowing of its descendants, whose ELEMENT_DOWN conditions
end. -/
def State.goDown (s : State) (e : Nat) : State :=
  match s.elements.get? e with
  | none => s
  | some x =>
    let s1 := (s.updElement e fun x => { x with state := .down, priority := false }).raiseCondition .elementDown e
    let fallen := s1.descendants e fun y => y.state = .down
    let s2 := { s1 with elements := s1.elements.mapAll fun i y =>
        if i ≠ e ∧ s1.under e i ∧ y.state ≠ ElementState.shadowed then y.shadow x.since else y }
    s2.endDowns fallen

/-- A miss count that rises by one, saturating at 15. -/
def missUp (n : Nat) : Nat := min (n + 1) 15

/-- R94: what the first miss of a spell sets unreachable-since to. -/
def sinceAt (minute : Nat) (since : Option Nat) : Option Nat :=
  match since with
  | some m => some m
  | none => some minute

/-- R93, R94, R96: a miss for an element, applied in the state it holds. -/
def State.applyMiss (s : State) (e : Nat) : State :=
  match s.elements.get? e with
  | none => s
  | some x => match x.state with
    | .shadowed => s
    | .down => s.updElement e fun x => { x with miss := missUp x.miss }
    | .up | .suspect =>
      let s1 := s.updElement e fun x =>
        { x with state := .suspect, miss := missUp x.miss, since := sinceAt s.clock.minute x.since }
      if s.topo.missThreshold ≤ missUp x.miss then s1.goDown e else s1
    | .verify =>
      let s1 := s.updElement e fun x => { x with miss := missUp x.miss }
      if s.topo.missThreshold ≤ missUp x.miss then s1.goDown e else s1

/-- R102, R103: the supply and level conditions follow a reply, ELEMENT_ON_BATTERY before ELEMENT_BATTERY_LOW. That the level condition comes after both
is the model's choice (log 44). -/
def State.updateConditions (s : State) (e : Nat) (supply : Option Supply) (level : Int) : State :=
  match s.elements.get? e with
  | none => s
  | some x =>
    let supplyAfter := supply.getD x.supply
    let s1 := s.updElement e fun x => { x with supply := supplyAfter, level := some level }
    let s2 := s1.followCondition .elementOnBattery e x.supply.onBattery supplyAfter.onBattery
    let s3 := s2.followCondition .elementBatteryLow e x.supply.isLow supplyAfter.isLow
    s3.followCondition .elementLevel e (levelStands s.topo.levelLimit x.level) (levelStands s.topo.levelLimit (some level))

/-- R97: the element is UP with no miss and no unreachable-since. -/
def Element.answered (x : Element) : Element := { x with state := .up, miss := 0, since := none }

/-- R98, R99: each child of `e` becomes VERIFY with a miss count of 0 and its priority flag set, keeping its unreachable-since. -/
def State.verifyChildren (s : State) (e : Nat) : State :=
  { s with elements := s.elements.mapAll fun _ y =>
      if y.parent = some e then { y with state := .verify, miss := 0, priority := true } else y }

/-- R93, R97 to R99: a reply of an element, applied in the state it holds. -/
def State.applyReply (s : State) (e : Nat) (supply : Option Supply) (level : Int) : State :=
  match s.elements.get? e with
  | none => s
  | some x => match x.state with
    | .shadowed => s
    | .up | .suspect => (s.updElement e Element.answered).updateConditions e supply level
    | .down =>
      ((((s.updElement e Element.answered).endAlarm .elementDown e).verifyChildren e).requestSweep (.subtree e)).updateConditions
        e supply level
    | .verify =>
      (((s.updElement e fun x => { x.answered with priority := false }).verifyChildren e).requestSweep (.subtree e)).updateConditions e supply level

/-! ## Legs -/

/-- R86: add one to a counter of a leg. -/
def State.countLeg (s : State) (leg : Nat) (f : LegCounters → LegCounters) : State :=
  s.updLeg leg fun l => { l with counters := f l.counters }

/-- R67, R68, R71: a leg starts a transmission: a fresh try tag, TXEN raised, the try timer at the reply timeout in force, and the frame on TX. -/
def State.transmit (s : State) (leg : Nat) (work : Work) (address : Nat) (kind : Byte) (body : List Byte) : State :=
  s.updLeg leg fun l =>
    let tag := (l.tag + 1) % 256
    { l with
      activity := .transmitting, txn := some ⟨work, address⟩, tag := tag, tryTimer := s.link.replyTimeout, txen := true, rx := []
      frame := legFrame address kind tag body
      counters := { l.counters with transmitted := up16 l.counters.transmitted } }

/-- R85: a bit rate takes effect on a leg: where it is a new one, the return-fault measurement in progress restarts (log 43). -/
def Leg.atRate (l : Leg) (rate : Rate) : Leg :=
  { l with rate := rate, measured := if l.rate = rate then l.measured else 0 }

/-- A leg's transaction ends: it becomes absent, the activity IDLE and the try timer stops (R76, R77, R80); a frame partly assembled is discarded
(R69), and a bit rate that waited for the end takes effect (R85). -/
def State.endTransaction (s : State) (leg : Nat) : State :=
  s.updLeg leg fun l =>
    Leg.atRate { l with activity := .idle, txn := none, tryTimer := 0, txen := false, rx := [] } s.link.rate

/-- R52: the four settings the records call for at this moment. -/
def State.builtFor (s : State) (t : Tap) : List Setting := t.ports.map s.desired

/-- R181: the body of a TAP_SET frame. -/
def tapSetBody (built : List Setting) : List Byte := built.flatMap settingBytes

/-- R52, R76: a leg takes a tap's entry from a queue. -/
def State.takeTap (s : State) (leg tap : Nat) (q : QueueKind) : State :=
  match s.taps.get? tap with
  | none => s
  | some t =>
    let built := s.builtFor t
    let s1 := (s.leaveQueues tap).updTap tap fun t => { t with origin := some q, dirty := false }
    s1.transmit leg (.tap tap 1 q built) t.address tapSetKind (tapSetBody built)

/-- R77: a leg takes a poll. -/
def State.takePoll (s : State) (leg element : Nat) (priority : Bool) : State :=
  match s.elements.get? element with
  | none => s
  | some x =>
    let s1 := if priority then s else s.updElement element fun x => { x with pollDue := false }
    s1.transmit leg (.poll element priority false) x.address pollKind []

/-- R55, R58: the tap of a transaction goes back to the head of its origin queue, its try not counted. -/
def State.returnHeld (s : State) (tap : Nat) (q : QueueKind) : State :=
  (s.updTap tap fun t => { t with origin := none, dirty := false }).joinHead q tap

/-- R57: the tap of a transaction has become SILENT. -/
def State.goSilent (s : State) (tap : Nat) : State :=
  (s.updTap tap fun t =>
    { t.forgotten with state := .silent, countdown := some s.link.silentInterval, origin := none, dirty := false }).raiseCondition
    .tapSilent tap

/-- R55 to R57: a tap's try has ended without a valid reply. -/
def State.tapTryFailed (s : State) (leg tap tries : Nat) (q : QueueKind) (address : Nat) : State :=
  match s.taps.get? tap with
  | none => s.endTransaction leg
  | some t =>
    if !s.feedReachable t then (s.returnHeld tap q).endTransaction leg
    else if tries < s.link.retryLimit + 1 then
      let built := s.builtFor t
      (s.updTap tap fun t => { t with dirty := false }).transmit leg (.tap tap (tries + 1) q built) address tapSetKind
        (tapSetBody built)
    else (s.goSilent tap).endTransaction leg

/-- R53: the ports of a tap after a reply: the built setting where the port is reported applied, absent where it is not. -/
def confirmPorts (built : List Setting) (applied : Byte) (ports : List TapPort) : List TapPort :=
  ports.zipIdx.map fun p => { p.1 with confirmed := if appliedBit applied p.2 then built[p.2]? else none }

/-- R54: whether every port is reported applied. -/
def allApplied (applied : Byte) : Bool := (List.range 4).all (appliedBit applied)

/-- R53, R54: a valid reply to a tap's command. -/
def State.tapReply (s : State) (leg tap : Nat) (q : QueueKind) (built : List Setting) (applied lidByte : Byte) : State :=
  match s.taps.get? tap with
  | none => s.endTransaction leg
  | some t =>
    let s1 := s.updTap tap fun t =>
      { t with
        ports := confirmPorts built applied t.ports, state := .inService, countdown := none, lid := lidOf lidByte
        origin := none, dirty := false }
    let s2 := if t.state = .silent then s1.endAlarm .tapSilent tap else s1
    let s3 := if t.lid = .closed ∧ lidOf lidByte = .opened then s2.raiseOccurrence .tapTamper tap else s2
    let s4 := if t.dirty then s3.joinTail q tap else if !allApplied applied then s3.joinTail .bulk tap else s3
    s4.endTransaction leg

/-- R76, R77: a leg hands over a try that ended without a valid reply. -/
def State.tryFailed (s : State) (leg : Nat) (t : Transaction) : State :=
  match t.work with
  | .tap tap tries q _ => s.tapTryFailed leg tap tries q t.address
  | .poll e _ retired =>
    let s1 := s.endTransaction leg
    if retired then s1 else s1.applyMiss e

/-- R76, R77: a leg hands over a valid reply with its two body bytes. -/
def State.tryAnswered (s : State) (leg : Nat) (t : Transaction) (b0 b1 : Byte) : State :=
  match t.work with
  | .tap tap _ q built => s.tapReply leg tap q built b0 b1
  | .poll e _ retired =>
    let s1 := s.endTransaction leg
    if retired then s1 else s1.applyReply e (supplyOf b0) (levelOf b1)

/-- R77: the kind of the frame a transaction sends. -/
def Work.kind : Work → Byte
  | .tap _ _ _ _ => tapSetKind
  | .poll _ _ _ => pollKind

/-- R80: a return fault abandons the transaction awaited. A ROUTINE poll sets its element's poll-due flag again if the element is still UP,
SUSPECT or DOWN. -/
def State.abandon (s : State) (leg : Nat) (t : Transaction) : State :=
  let s1 := match t.work with
    | .tap tap _ q _ => s.returnHeld tap q
    | .poll e priority retired =>
      if priority ∨ retired then s
      else s.updElement e fun x => { x with pollDue := x.pollDue || x.state.polled }
  (s1.countLeg leg fun c => { c with abandoned := up16 c.abandoned }).endTransaction leg

/-- R74: a leg starts a poll cycle: every element on the leg that is UP, SUSPECT or DOWN is made due, and the timer is loaded. -/
def State.startCycle (s : State) (leg : Nat) : State :=
  ({ s with elements := s.elements.mapAll fun _ x =>
      if x.leg = leg ∧ x.state.polled then { x with pollDue := true } else x }).updLeg leg fun l =>
    { l with pollTimer := some (s.link.pollCycle * 1000) }

end Sys2Proof.Machine
end

