-- ==== Sys2Proof/Machine/Taps.lean ====
section
/-! DEFINITION. Chapter 3: the tap requests, the Tap Table's taking of a minute boundary, the silent-retry countdown and the sweep's
visits. -/

namespace Sys2Proof.Machine

/-- R44, R89: the field address belongs to a tap or an element already in the part. -/
def State.addressTaken (s : State) (address : Nat) : Bool :=
  (s.taps.any fun p => p.2.address == address) || s.elements.any fun p => p.2.address == address

/-- R44: a field address is 1 to 65,534. -/
def addressOk (address : Nat) : Bool := address ≠ 0 && address ≠ 65535

/-- R44: the record a served Enrol Tap creates. -/
def newTap (address feeding : Nat) : Tap :=
  ⟨address, feeding, List.replicate 4 ⟨none, none⟩, .inService, none, .closed, none, false⟩

/-- R44. -/
def enrolTapOwner (b : List Byte) (s : State) : Served :=
  let address := u16 b 0
  let feeding := u8 b 2
  if !addressOk address ∨ 127 < feeding then s.refuse .badField
  else if s.addressTaken address then s.refuse .exists_
  else if 512 ≤ s.taps.length then s.refuse .full
  else if (s.elements.get? feeding).isNone then s.refuse .notFound
  else { s with taps := s.taps.set s.taps.lowestFree (newTap address feeding) }.served (w16 s.taps.lowestFree)

/-- R44. -/
def execEnrolTap (body : List Byte) (s : State) : Out := .next (request 3 .both body (enrolTapOwner body) s)

/-- R45, R46, R61: a tap index, then the record it holds. -/
def State.withTap (s : State) (tap : Nat) (rest : Tap → Served) : Served :=
  if 511 < tap then s.refuse .badField
  else match s.taps.get? tap with
    | none => s.refuse .notFound
    | some t => rest t

/-- R45. -/
def retireTapOwner (b : List Byte) (s : State) : Served :=
  let tap := u16 b 0
  s.withTap tap fun t =>
    if t.ports.any fun p => p.subscriber.isSome then s.refuse .badState
    else if t.inFlight then s.refuse .busy
    else
      let s1 := s.leaveQueues tap
      let s2 := if t.state = .silent then s1.endAlarm .tapSilent tap else s1
      { s2 with taps := s2.taps.erase tap }.served []

/-- R45. -/
def execRetireTap (body : List Byte) (s : State) : Out := .next (request 2 .both body (retireTapOwner body) s)

/-- R46: the account of a bound subscriber. -/
def State.boundAccount (s : State) (p : TapPort) : Option Nat :=
  match p.subscriber with
  | none => none
  | some i => match s.subs.get? i with
    | none => none
    | some r => some r.account

/-- R46: one port of the body of Read Tap. -/
def State.portBody (s : State) (p : TapPort) : List Byte :=
  wopt 4 w32 (s.boundAccount p) ++ wopt 13 settingBytes p.confirmed ++ settingBytes (s.desired p)

/-- The leg of an element. -/
def State.legOf (s : State) (element : Nat) : Nat :=
  match s.elements.get? element with
  | none => 0
  | some e => e.leg

/-- R46: the body of Read Tap. -/
def State.tapBody (s : State) (tap : Nat) (t : Tap) : List Byte :=
  w16 t.address ++ w8 t.feeding ++ w8 (s.legOf t.feeding) ++ w8 t.state.code ++ wopt 1 w8 t.countdown ++ w8 t.lid.code
    ++ w8 (membershipCode (s.membership tap)) ++ wflag ((s.membership tap).isSome && s.held tap)
    ++ wflag t.inFlight ++ wflag t.dirty ++ t.ports.flatMap s.portBody

/-- R46. -/
def execReadTap (body : List Byte) (s : State) : Out :=
  .next (request 2 .both body (fun s => s.withTap (u16 body 0) fun t => s.served (s.tapBody (u16 body 0) t)) s)

/-- R61. -/
def resendTapOwner (b : List Byte) (s : State) : Served :=
  let tap := u16 b 0
  s.withTap tap fun _ =>
    ((s.updTap tap fun t => { t.forgotten with countdown := none }).need .urgent tap).served []

/-- R61. -/
def execResendTap (body : List Byte) (s : State) : Out := .next (request 2 .both body (resendTapOwner body) s)

/-- R65: a set of scopes: 0x00 nothing, 0x01 ALL, 0x02 subtrees; then the number of elements, and eight places for them (log 9),
filled in the order in which the subtrees came to the set (the model's choice, log 34). -/
def scopesBytes : Option Scope → List Byte
  | none => w8 0 ++ w8 0 ++ zeros 8
  | some .all => w8 1 ++ w8 0 ++ zeros 8
  | some (.subtrees es) => w8 2 ++ w8 es.length ++ es.flatMap w8 ++ zeros (8 - es.length)

/-- R65: the body of Read Switching. Where no sweep is in flight its presence byte is 0 and the bytes of scope and next index are zero (the model's choice, log 48). -/
def State.switchingBody (s : State) : List Byte :=
  w16 s.urgent.length ++ w16 s.bulk.length ++ w16 (s.urgent.filter s.held).length ++ w16 (s.bulk.filter s.held).length
    ++ w16 (s.taps.filter fun p => p.2.inFlight).length ++ w16 (s.taps.filter fun p => p.2.state = .silent).length
    ++ wopt 12 (fun w : Sweep => scopesBytes (some w.scope) ++ w16 w.next) s.sweep ++ scopesBytes s.scopes

/-- R65. -/
def execReadSwitching (body : List Byte) (s : State) : Out :=
  .next (request 0 .both body (fun s => s.served s.switchingBody) s)

/-! ## The boundary and the countdown (R59) -/

/-- R59: a running countdown is lowered by one, down to zero, where it waits for its expiry (log 22). -/
def Tap.counted (t : Tap) : Tap :=
  match t.countdown with
  | none => t
  | some n => { t with countdown := some (n - 1) }

/-- R59: the countdown of a tap runs while the tap is on neither queue and not in flight. -/
def State.countdownRuns (s : State) (tap : Nat) (t : Tap) : Bool :=
  t.counting && (s.membership tap).isNone && !t.inFlight

/-- R59: the Tap Table takes the oldest boundary announced to it (log 5). -/
def execTapTableTakesBoundary (s : State) : Out :=
  match s.announced.taps with
  | [] => .next s
  | _ :: later => .next { s with
      announced := { s.announced with taps := later }
      taps := s.taps.mapAll fun i t => if s.countdownRuns i t then t.counted else t }

/-- R59: a countdown that has reached zero is removed and makes a bulk need for its tap. -/
def execSilentCountdownExpiry (tap : Nat) (s : State) : Out :=
  match s.taps.get? tap with
  | none => .next s
  | some t =>
    if t.countdown = some 0 then .next ((s.updTap tap fun t => { t with countdown := none }).need .bulk tap)
    else .next s

/-! ## Sweeps (R63, R64) -/

/-- R64, step 1: whether a visit passes a tap over. -/
def State.passedOver (s : State) (scope : Scope) (t : Tap) : Bool :=
  !s.covers scope t || !(t.ports.any fun p => p.subscriber.isSome) || t.counting

/-- R62: every subtree scope is a clearing scope; scope ALL does not clear. -/
def Scope.clearing : Scope → Bool
  | .all => false
  | .subtrees _ => true

/-- R64, step 3: whether some port's confirmed setting is absent or differs from its desired setting. -/
def State.unsettled (s : State) (t : Tap) : Bool := t.ports.any fun p => p.confirmed ≠ some (s.desired p)

/-- R64: a sweep's visit to a tap index. -/
def State.sweepTap (s : State) (scope : Scope) (tap : Nat) : State :=
  match s.taps.get? tap with
  | none => s
  | some t =>
    if s.passedOver scope t then s
    else
      let t1 := if scope.clearing then t.forgotten else t
      let s1 := s.updTap tap fun t => if scope.clearing then t.forgotten else t
      if s1.unsettled t1 then s1.need .bulk tap else s1

/-- R63: a sweep that has visited index 511 ends; a pending scope set that is not empty becomes the scope of a new sweep, from index 0, and
the pending set is emptied. -/
def State.afterSweep (s : State) : State :=
  { s with sweep := s.scopes.map fun scope => ⟨scope, 0⟩, scopes := none }

/-- R64: a sweep in flight visits its next index. -/
def execSweepVisit (s : State) : Out :=
  match s.sweep with
  | none => .next s
  | some w =>
    let s1 := s.sweepTap w.scope w.next
    if w.next < 511 then .next { s1 with sweep := some ⟨w.scope, w.next + 1⟩ } else .next s1.afterSweep

end Sys2Proof.Machine
end

