-- ==== Sys2Proof/Machine/Plant.lean ====
section
/-! DEFINITION. The requests of chapter 5: enrolling, retiring and reading elements, and the topology parameters. -/

namespace Sys2Proof.Machine

/-! ## Enrol Element (R89, R90) -/

/-- R90: the state, unreachable-since and poll-due flag a new element enters with. -/
def entryState (mode : DeviceMode) (parent : Option Element) : ElementState × Option Nat × Bool :=
  match mode, parent with
  | .loading, _ => (.suspect, none, false)
  | .live, none => (.suspect, none, true)
  | .live, some p => if p.state.reachable then (.suspect, none, true) else (.shadowed, p.since, false)

/-- R90: the record a served Enrol Element creates, under `parent` or as a leg root of `leg`. -/
def newElement (mode : DeviceMode) (address leg : Nat) (parent : Option (Nat × Element)) : Element :=
  let entry := entryState mode (parent.map Prod.snd)
  { address := address, parent := parent.map Prod.fst
    leg := match parent with | none => leg | some p => p.2.leg
    depth := match parent with | none => 1 | some p => p.2.depth + 1
    state := entry.1, miss := 0, since := entry.2.1, supply := .unknown, level := none
    pollDue := entry.2.2, priority := false }

/-- R90: the new record at the lowest free index. -/
def State.enrolElement (s : State) (x : Element) : Served :=
  { s with elements := s.elements.set s.elements.lowestFree x }.served (w8 s.elements.lowestFree ++ w8 x.state.code)

/-- R89, R180: parent 0xFF is a leg root. -/
def enrolElementOwner (b : List Byte) (s : State) : Served :=
  let address := u16 b 0
  let parent := u8 b 2
  let leg := u8 b 3
  if !addressOk address ∨ (parent ≠ 255 ∧ 127 < parent) ∨ (parent = 255 ∧ 3 < leg) then s.refuse .badField
  else if s.addressTaken address then s.refuse .exists_
  else if 128 ≤ s.elements.length then s.refuse .full
  else if parent = 255 then s.enrolElement (newElement s.mode address leg none)
  else match s.elements.get? parent with
    | none => s.refuse .notFound
    | some p =>
      if p.depth = 16 then s.refuse .badField
      else s.enrolElement (newElement s.mode address leg (some (parent, p)))

/-- R89. -/
def execEnrolElement (body : List Byte) (s : State) : Out := .next (request 4 .both body (enrolElementOwner body) s)

/-! ## Retire Element (R91) -/

/-- R91, R105: an element index, then the record it holds. -/
def State.withElement (s : State) (e : Nat) (rest : Element → Served) : Served :=
  if 127 < e then s.refuse .badField
  else match s.elements.get? e with
    | none => s.refuse .notFound
    | some x => rest x

/-- R105: the number of children of an element. -/
def State.childCount (s : State) (e : Nat) : Nat := (s.elements.filter fun p => p.2.parent = some e).length

/-- R105: the number of taps an element feeds. -/
def State.fedCount (s : State) (e : Nat) : Nat := (s.taps.filter fun p => p.2.feeding = e).length

/-- End a condition that stands. -/
def State.endIf (s : State) (stands : Bool) (k : AlarmKind) (subject : Nat) : State :=
  if stands then s.endAlarm k subject else s

/-- R91: the conditions that stand for an element are ended. -/
def State.endConditions (s : State) (e : Nat) (x : Element) : State :=
  (((s.endIf (x.state = .down) .elementDown e).endIf x.supply.onBattery .elementOnBattery e).endIf x.supply.isLow
    .elementBatteryLow e).endIf (levelStands s.topo.levelLimit x.level) .elementLevel e

/-- R77: a poll of element `e` in flight hands its outcome to no one (log 26). -/
def Leg.orphaned (l : Leg) (e : Nat) : Leg :=
  { l with txn := l.txn.map fun t => match t.work with
      | .poll e' priority retired => { t with work := .poll e' priority (retired || e' == e) }
      | .tap _ _ _ _ => t }

/-- R91. -/
def retireElementOwner (b : List Byte) (s : State) : Served :=
  let e := u8 b 0
  s.withElement e fun x =>
    if s.childCount e ≠ 0 then s.refuse .badState
    else if s.fedCount e ≠ 0 then s.refuse .badState
    else
      let s1 := s.endConditions e x
      { s1 with elements := s1.elements.erase e, legs := s1.legs.map fun l => Leg.orphaned l e }.served []

/-- R91. -/
def execRetireElement (body : List Byte) (s : State) : Out := .next (request 1 .both body (retireElementOwner body) s)

/-! ## Reads (R105, R106) -/

/-- R105: whether a poll of the element is in flight on its leg. -/
def Leg.polls (l : Leg) (e : Nat) : Bool :=
  match l.txn with
  | none => false
  | some t => match t.work with
    | .poll e' _ retired => e' == e && !retired
    | .tap _ _ _ _ => false

/-- R105: the body of Read Element. -/
def State.elementBody (s : State) (e : Nat) (x : Element) : List Byte :=
  w16 x.address ++ wopt 1 w8 x.parent ++ w8 x.leg ++ w8 x.depth ++ w8 x.state.code ++ w8 x.miss ++ wopt 4 w32 x.since
    ++ w8 x.supply.code ++ wopt 1 wi8 x.level ++ wflag x.pollDue ++ wflag x.priority ++ w8 (s.childCount e)
    ++ w16 (s.fedCount e) ++ wflag (s.legs.any fun l => l.polls e)

/-- R105. -/
def execReadElement (body : List Byte) (s : State) : Out :=
  .next (request 1 .both body (fun s => s.withElement (u8 body 0) fun x => s.served (s.elementBody (u8 body 0) x)) s)

/-- R180: the bit of an element state in a state set. -/
def inStateSet (set : Byte) (state : ElementState) : Bool := set.getLsbD state.code

/-- R106: bits 5 to 7 of the set are ignored. -/
def nextElementOwner (b : List Byte) (s : State) : Served :=
  let start := u8 b 0
  let set := b.getD 1 0#8
  if 128 < start ∨ set &&& 0x1F#8 = 0#8 then s.refuse .badField
  else match s.elements.find? fun p => start ≤ p.1 && inStateSet set p.2.state with
    | none => s.refuse .notFound
    | some (e, x) => s.served (s.elementBody e x)

/-- R106. -/
def execNextElement (body : List Byte) (s : State) : Out := .next (request 2 .both body (nextElementOwner body) s)

/-! ## Set Topology Parameters (R104) -/

/-- R104: element `e` at depth `d` becomes DOWN if it is SUSPECT or VERIFY with a miss count at or above the threshold. -/
def State.retestMisses (s : State) (d e : Nat) : State :=
  match s.elements.get? e with
  | none => s
  | some x =>
    if x.depth = d ∧ (x.state = .suspect ∨ x.state = .verify) ∧ s.topo.missThreshold ≤ x.miss then s.goDown e else s

/-- R104: the elements are taken in order of depth, shallowest first, and by index within one depth. -/
def State.applyThreshold (s : State) : State :=
  (List.range 16).foldl
    (fun s d => (s.elements.map Prod.fst).foldl (fun s e => s.retestMisses (d + 1) e) s) s

/-- R103, R104: ELEMENT_LEVEL is tested for every element with a last forward level, in index order, where the answer changes from `old`. -/
def State.retestLevels (s : State) (old : Nat) : State :=
  s.elements.foldl
    (fun s p => s.followCondition .elementLevel p.1 (levelStands old p.2.level) (levelStands s.topo.levelLimit p.2.level)) s

/-- R104: the elements the threshold takes DOWN raise ELEMENT_DOWN first, then ELEMENT_LEVEL is tested (the order of the two effects is the model's choice,
log 36). -/
def setTopologyOwner (b : List Byte) (s : State) : Served :=
  let threshold := u8 b 0
  let limit := u8 b 1
  if threshold < 1 ∨ 15 < threshold ∨ limit < 1 ∨ 127 < limit then s.refuse .badField
  else
    let s1 := { s with topo := ⟨threshold, limit⟩ }
    let s2 := if threshold < s.topo.missThreshold then s1.applyThreshold else s1
    (s2.retestLevels s.topo.levelLimit).served []

/-- R104. -/
def execSetTopologyParameters (body : List Byte) (s : State) : Out :=
  .next (request 2 .both body (setTopologyOwner body) s)

end Sys2Proof.Machine
end

