-- ==== Sys2Proof/Machine/Link.lean ====
section
/-! DEFINITION. Chapter 4: the steps of a leg controller, its two requests, and the timing of a return fault. -/

namespace Sys2Proof.Machine

/-! ## Taking work (R72) -/

/-- R72, steps 1 and 3: the lowest-index element on the leg that a test admits. -/
def State.firstElement (s : State) (leg : Nat) (test : Element → Bool) : Option Nat :=
  (s.elements.find? fun p => p.2.leg == leg && test p.2).map Prod.fst

/-- R72: the conditions under which a leg takes work. -/
def State.mayTake (s : State) (l : Leg) : Bool := s.mode = .live && l.activity = .idle && l.fault.isNone

/-- R72: the first work available to a leg, in the order priority poll, urgent tap, routine poll, bulk tap. -/
def State.takeWork (s : State) (leg : Nat) : State :=
  match s.firstElement leg Element.priority with
  | some e => s.takePoll leg e true
  | none => match s.urgent.find? (s.eligible leg) with
    | some tap => s.takeTap leg tap .urgent
    | none => match s.firstElement leg Element.pollDue with
      | some e => s.takePoll leg e false
      | none => match s.bulk.find? (s.eligible leg) with
        | some tap => s.takeTap leg tap .bulk
        | none => s

/-- R72: a leg takes work when it may. -/
def execLegTakesWork (leg : Nat) (s : State) : Out :=
  match s.legs[leg]? with
  | none => .next s
  | some l => if s.mayTake l then .next (s.takeWork leg) else .next s

/-- R67: TXEN is lowered at the end of the last character's stop bit, and the activity becomes AWAITING. -/
def execFrameTransmitted (leg : Nat) (s : State) : Out :=
  match s.legs[leg]? with
  | none => .next s
  | some l =>
    if l.activity = .transmitting then .next (s.updLeg leg fun l => { l with activity := .awaiting, txen := false })
    else .next s

/-- R83: a leg has sent `characters` characters of its frame, lowers TXEN, and sends nothing more of the frame. -/
def Leg.cutShort (l : Leg) (characters : Nat) : Leg := { l with txen := false, frame := l.frame.take characters }

/-- R83: a leg that was TRANSMITTING when Clear Store was served lowers TXEN at the end of the character in progress, whose place in the frame the command
gives (log 47). -/
def execFrameCutShort (cut : FrameCut) (s : State) : Out :=
  match s.legs[cut.leg]? with
  | none => .next s
  | some l =>
    if l.activity = .idle ∧ l.txen then .next (s.updLeg cut.leg fun l => l.cutShort cut.characters) else .next s

/-! ## Replies and expiries (R70, R71) -/

/-- R70: what a frame assembled while AWAITING does to the try of a transaction, whose tag is `awaited`. -/
def State.judge (s : State) (leg awaited : Nat) (t : Transaction) (frame : Received) : State :=
  match frame with
  | .incomplete => s
  | .failed => (s.countLeg leg fun c => { c with checkFailures := up16 c.checkFailures }).tryFailed leg t
  | .passed address kind tag b0 b1 =>
    if address ≠ t.address ∨ tag ≠ awaited then s.countLeg leg fun c => { c with discarded := up16 c.discarded }
    else if kind ≠ t.work.kind then
      (s.countLeg leg fun c => { c with checkFailures := up16 c.checkFailures }).tryFailed leg t
    else (s.countLeg leg fun c => { c with valid := up16 c.valid }).tryAnswered leg t b0 b1

/-- R69: the characters a leg holds of a frame partly assembled. -/
def State.hold (s : State) (leg : Nat) (rx : List Byte) : State := s.updLeg leg fun l => { l with rx := rx }

/-- R69, R70: the receiver holds `rx` of a frame: a frame that is whole, or has failed, is judged, and the receiver hunts for a sync character
again. -/
def State.assembly (s : State) (leg awaited : Nat) (t : Transaction) (rx : List Byte) : State :=
  if assembled rx = .incomplete then s.hold leg rx else (s.hold leg []).judge leg awaited t (assembled rx)

/-- R69, R70: one character arrives on RX. Only a leg that is AWAITING and whose try timer has not run out (R71, log 16) takes it. -/
def State.receiveChar (leg : Nat) (s : State) (c : Byte) : State :=
  match s.legs[leg]? with
  | none => s
  | some l => match l.txn with
    | none => s
    | some t =>
      if l.activity = .awaiting ∧ l.tryTimer ≠ 0 then
        s.assembly leg l.tag t (taken l.rx c)
      else s

/-- R69, R70: characters arrive on RX of a leg, one after the other. -/
def execReplyFrameReceived (leg : Nat) (chars : List Byte) (s : State) : Out := .next (chars.foldl (State.receiveChar leg) s)

/-- R71: a try's timer runs out and the try ends without a valid reply (log 3, log 15): before that moment nothing happens. -/
def execTryTimerExpiry (leg : Nat) (s : State) : Out :=
  match s.legs[leg]? with
  | none => .next s
  | some l => match l.txn with
    | none => .next s
    | some t =>
      if l.tryTimer = 0 then .next ((s.countLeg leg fun c => { c with expired := up16 c.expired }).tryFailed leg t) else .next s

/-- R74: a poll cycle timer runs out and the next cycle starts (log 3): before that moment nothing happens. -/
def execPollCycleExpiry (leg : Nat) (s : State) : Out :=
  match s.legs[leg]? with
  | none => .next s
  | some l => if l.pollTimer = some 0 then .next (s.startCycle leg) else .next s

/-! ## Return faults (R79 to R81) -/

/-- R79: a time of `micros` microseconds is longer than one character time, ten bit times, at a rate. -/
def longerThanCharacter (rate : Rate) (micros : Nat) : Bool := 10 * 1000000 < micros * rate.bps

/-- R79: a time of `micros` microseconds is one character time or more. -/
def atLeastCharacter (rate : Rate) (micros : Nat) : Bool := 10 * 1000000 ≤ micros * rate.bps

/-- R79: the measurement in progress with what `m` adds to it, or that alone after a break. -/
def Leg.measuring (l : Leg) (m : Measurement) : Nat := (if m.unbroken then l.measured else 0) + m.micros

/-- R79: a leg's measurement stands at `micros`. -/
def State.measure (s : State) (leg micros : Nat) : State := s.updLeg leg fun l => { l with measured := micros }

/-- R79, R80: a return fault begins on a leg, whose activity was `activity` with transaction `txn`. -/
def State.beginFault (s : State) (leg : Nat) (activity : Activity) (txn : Option Transaction) : State :=
  let s1 := (s.updLeg leg fun l =>
    { l with fault := some s.now, measured := 0, counters := { l.counters with faults := up16 l.counters.faults } }).raiseCondition
    .legReturnFault leg
  match activity, txn with
  | .awaiting, some t => s1.abandon leg t
  | _, _ => s1

/-- R79: what a leg has measured of RX at space, outside TRANSMITTING, is added to the measurement in progress (log 18, log 35):
longer than one character time at the rate in use begins a return fault, and a shorter time is the measurement in progress. -/
def execReturnFaultBegins (leg : Nat) (space : Measurement) (s : State) : Out :=
  match s.legs[leg]? with
  | none => .next s
  | some l =>
    if l.activity = .transmitting ∨ l.fault.isSome then .next s
    else if longerThanCharacter l.rate (l.measuring space) then .next (s.beginFault leg l.activity l.txn)
    else .next (s.measure leg (l.measuring space))

/-- R79: what a leg has measured of RX at mark, outside TRANSMITTING, is added to the measurement in progress (log 18, log 35):
one character time at the rate in use ends the return fault, and a shorter time is the measurement in progress. -/
def execReturnFaultEnds (leg : Nat) (mark : Measurement) (s : State) : Out :=
  match s.legs[leg]? with
  | none => .next s
  | some l =>
    if l.activity = .transmitting ∨ l.fault.isNone then .next s
    else if atLeastCharacter l.rate (l.measuring mark) then
      .next ((s.updLeg leg fun l => { l with fault := none, measured := 0 }).endAlarm .legReturnFault leg)
    else .next (s.measure leg (l.measuring mark))

/-! ## Requests (R84 to R86) -/

/-- R84: the tests of the five parameters. -/
def linkParamsAt (b : List Byte) : Option LinkParams :=
  match rateOf (u8 b 0) with
  | none => none
  | some rate =>
    let p : LinkParams := ⟨rate, u16 b 1, u8 b 3, u8 b 4, u8 b 5⟩
    if p.replyTimeout < 20 ∨ 2000 < p.replyTimeout then none
    else if (rate = .r9600 ∧ p.replyTimeout < 64) ∨ (rate = .r19200 ∧ p.replyTimeout < 32) then none
    else if 7 < p.retryLimit then none
    else if p.pollCycle < 5 then none
    else if p.silentInterval < 1 then none
    else some p

/-- R85: a new bit rate takes effect at once on a leg with no transaction in flight. -/
def Leg.takesRate (l : Leg) (rate : Rate) : Leg := if l.txn.isNone then l.atRate rate else l

/-- R84, R85. -/
def setLinkOwner (b : List Byte) (s : State) : Served :=
  match linkParamsAt b with
  | none => s.refuse .badField
  | some p => { s with link := p, legs := s.legs.map fun l => Leg.takesRate l p.rate }.served []

/-- R84. -/
def execSetLinkParameters (body : List Byte) (s : State) : Out := .next (request 6 .both body (setLinkOwner body) s)

/-- R86: the transaction in a body of Read Leg: 0x00, the tap index in two bytes, the tries counted and the origin queue, or 0x01, the element index in one
byte (section 11.2) and ROUTINE/PRIORITY; then the field address and the try tag awaited (log 9, log 41). -/
def transactionBytes (tag : Nat) (t : Transaction) : List Byte :=
  (match t.work with
    | .tap tap tries q _ => w8 0 ++ w16 tap ++ w8 tries ++ w8 q.code
    | .poll e priority _ => w8 1 ++ w8 e ++ wflag priority) ++ w16 t.address ++ w8 tag

/-- R86: the five link parameters. -/
def linkBytes (p : LinkParams) : List Byte :=
  w8 p.rate.code ++ w16 p.replyTimeout ++ w8 p.retryLimit ++ w8 p.pollCycle ++ w8 p.silentInterval

/-- R86: the seven counters. -/
def countersBytes (c : LegCounters) : List Byte :=
  w16 c.transmitted ++ w16 c.valid ++ w16 c.expired ++ w16 c.checkFailures ++ w16 c.discarded ++ w16 c.abandoned ++ w16 c.faults

/-- R86: seconds left on the poll cycle timer, a part of a second counting as one (log 20). -/
def secondsLeft (ms : Nat) : Nat := (ms + 999) / 1000

/-- R86: the body of Read Leg. R66 lists neither the stamp of a return fault nor the poll cycle timer as an optional field: the model sends each with a presence
byte, which is 0 with zero bytes after it in NORMAL and for a stopped timer (the model's choice, log 48). -/
def State.legBody (s : State) (leg : Nat) (l : Leg) : List Byte :=
  w8 l.activity.code ++ wopt 8 (transactionBytes l.tag) l.txn ++ w8 l.tag ++ w8 l.rate.code
    ++ wflag l.fault.isSome ++ wopt 5 wstamp l.fault ++ wopt 1 (fun ms => w8 (secondsLeft ms)) l.pollTimer
    ++ w8 (s.elements.filter fun p => p.2.leg = leg && p.2.pollDue).length
    ++ w8 (s.elements.filter fun p => p.2.leg = leg && p.2.priority).length
    ++ linkBytes s.link ++ countersBytes l.counters

/-- R86: all counters at 0. -/
def LegCounters.zero : LegCounters := ⟨0, 0, 0, 0, 0, 0, 0⟩

/-- R86. -/
def readLegOwner (b : List Byte) (s : State) : Served :=
  let leg := u8 b 0
  match s.legs[leg]? with
  | none => s.refuse .badField
  | some l =>
    if 3 < leg then s.refuse .badField
    else (if flagAt b 1 then s.countLeg leg fun _ => LegCounters.zero else s).served (s.legBody leg l)

/-- R86. -/
def execReadLeg (body : List Byte) (s : State) : Out := .next (request 2 .both body (readLegOwner body) s)

end Sys2Proof.Machine
end

