-- ==== Sys2Proof/Machine/PortUnit.lean ====
section
/-! DEFINITION. Chapter 10: the Request Port's own steps, the hard reset, and Go Live, Clear Store and Read Status. -/

namespace Sys2Proof.Machine

/-! ## Hard reset (R176) -/

/-- R176: RESETn or power-on puts every block in its reset state. The contact pins keep their levels, which the debounced levels take (R156); the
queue of commands and the count of free choices are the model's own and stay (log 27). -/
def execHardReset (selectAsserted : Bool) (s : State) : Out :=
  .next { State.reset with
    port := { Port.reset with selectIgnored := selectAsserted }
    inputs := s.inputs.map fun x => Input.reset x.pin
    free := s.free, pending := s.pending }

/-! ## Frames and reads (R171 to R175) -/

/-- R173: a complete request frame, of any code, arrives while the port is SERVING. -/
def execRequestFrameDiscarded (_code : Byte) (body : List Byte) (s : State) : Out :=
  if s.port.selectIgnored then .next s.endIgnoredSelect
  else if s.port.state = .serving then .next (s.discardFrame body.length)
  else .next s

/-- R172: a partial frame is discarded. -/
def execPartialFrameDiscarded (bytes : List Byte) (s : State) : Out :=
  if s.port.selectIgnored then .next s.endIgnoredSelect
  else .next { s with port := { s.port with requestBuffer := [], miso := zeros bytes.length } }

/-- R175, test 1: an accepted frame whose request code is not in the table is answered UNKNOWN_REQUEST. A code that is in the table spells another
command (log 31). -/
def execUnknownRequest (code : Byte) (body : List Byte) (s : State) : Out :=
  if unknownCode code then
    if s.port.selectIgnored then .next s.endIgnoredSelect
    else if s.port.state = .serving then .next (s.discardFrame body.length)
    else .next ((s.acceptFrame body.length).answer (refusal .unknownRequest))
  else .next s

/-- R173: the owner has answered: the response is placed in the response buffer, the port becomes WAITING and RDY rises. -/
def execResponseReady (s : State) : Out :=
  match s.port.answer with
  | none => .next s
  | some r =>
    if s.port.state = .serving then
      .next { s with port := { s.port with state := .waiting, responseBuffer := some r, answer := none } }
    else .next s

/-- Section 11.2: the bytes of a response frame. -/
def Response.bytes (r : Response) : List Byte := w8 r.status.code ++ w16 r.body.length ++ r.body

/-- R174: the empty frame: the no-response status 0xFF and a length of 0. -/
def emptyFrame : List Byte := w8 0xFF ++ w16 0

/-- R174: the first `n` bytes on MISO after the read code for a frame: the frame, then zero bytes. What MISO carries under the read code itself is not in
the record (the model's choice, log 45). -/
def shiftedOut (frame : List Byte) (n : Nat) : List Byte := frame.take n ++ zeros (n - frame.length)

/-- R174: a read select with `clocked` bytes after the read code. -/
def execReadSelect (clocked : Nat) (s : State) : Out :=
  if s.port.selectIgnored then .next s.endIgnoredSelect
  else match s.port.state, s.port.responseBuffer with
    | .waiting, some r =>
      let port := { s.port with miso := shiftedOut r.bytes clocked }
      if r.bytes.length ≤ clocked then .next { s with port := { port with state := .idle, responseBuffer := none } }
      else .next { s with port := port }
    | _, _ => .next { s with port := { s.port with miso := shiftedOut emptyFrame clocked } }

/-! ## Go Live (R177) -/

/-- R177: the six steps of a served Go Live. -/
def State.goLive (s : State) : State :=
  let s2 := { s with
    elements := s.elements.mapAll fun _ x => { x with state := .suspect, miss := 0, since := none, priority := false }
    taps := s.taps.mapAll fun _ t => t.forgotten
    mode := .live
    billing := { s.billing with start := some s.clock.minute, nextClose := some (s.clock.minute + s.billing.length) } }
  (List.range 4).foldl (fun s leg => s.startCycle leg) (s2.requestSweep .all)

/-- R177: the response gives the period start and the next close, optional fields (section 7.1) that are both present by then (R180). -/
def goLiveOwner (s : State) : Served :=
  if s.mode = .live then s.refuse .badState
  else s.goLive.served (wopt 4 w32 (some s.clock.minute) ++ wopt 4 w32 (some (s.clock.minute + s.billing.length)))

/-- R177. -/
def execGoLive (body : List Byte) (s : State) : Out := .next (request 0 .both body goLiveOwner s)

/-! ## Clear Store (R178) -/

/-- R66, R83: a leg at Clear Store: its transaction is abandoned and its poll cycle timer stops; a leg that was TRANSMITTING keeps TXEN high until
FRAME_CUT_SHORT. A bit rate that waited for the transaction's end takes effect (R85, log 13). -/
def Leg.cleared (l : Leg) (rate : Rate) : Leg :=
  Leg.atRate { l with activity := .idle, txn := none, tryTimer := 0, pollTimer := none, counters := LegCounters.zero, rx := [] }
    (if l.txn.isSome then rate else l.rate)

/-- R25: a slot at Clear Store keeps its dark flag. -/
def Slot.clearedSlot (x : Slot) : Slot := { Slot.reset with dark := x.dark }

/-- R178, steps 1 to 3 and the emptying of step 4. -/
def State.emptied (s : State) : State :=
  { s with
    subs := [], accounts := [], slots := s.slots.map Slot.clearedSlot, tiers := s.tiers.map fun _ => Tier.reset, events := []
    taps := [], urgent := [], bulk := [], sweep := none, scopes := none
    legs := s.legs.map fun l => Leg.cleared l s.link.rate
    elements := []
    clock := { s.clock with pending := none }
    billing := { s.billing with period := 0, start := none, nextClose := none, slipped := 0, pass := none }
    alarms := { s.alarms with table := [], overflow := none, seq := 0 } }

/-- R161: the causes that outlast Clear Store: each slot still dark (R36), each leg in return fault (R82), the Time Base in holdover (R108), each
standing contact condition (R156). -/
def State.outlasting (s : State) : List (AlarmKind × Nat) :=
  ((s.slots.zipIdx.filter fun p => p.1.dark).map fun p => (.channelDark, p.2))
    ++ ((s.legs.zipIdx.filter fun p => p.1.fault.isSome).map fun p => (.legReturnFault, p.2))
    ++ (if s.clock.ref = .holdover then [(.refLost, 0)] else [])
    ++ ((s.inputs.zipIdx.filter fun p => p.1.standing).map fun p => (.contact, p.2))

/-- R161: the causes are raised anew, in an order the manual leaves open (log 7). -/
def State.raiseAnew (s : State) : State :=
  let causes := s.outlasting
  let s1 := (arrange s.free causes).foldl (fun s c => s.raiseCondition c.1 c.2) s
  { s1 with free := s1.free + causes.length }

/-- R178. -/
def State.clearStore (s : State) : State := { s.emptied.raiseAnew with mode := .loading }

/-- R178. -/
def execClearStore (body : List Byte) (s : State) : Out :=
  .next (request 0 .both body (fun s => s.clearStore.served []) s)

/-! ## Read Status (R179) -/

/-- R179: the body of Read Status. -/
def State.statusBody (s : State) : List Byte :=
  w8 s.mode.code ++ wflag s.port.overrun ++ w32 s.clock.minute ++ w8 s.clock.second
    ++ w16 s.subs.length ++ w16 s.taps.length ++ w8 s.elements.length ++ w8 s.events.length
    ++ w8 s.alarms.table.length ++ w8 s.alarms.presentableCount
    ++ wflag s.billing.pass.isSome ++ wflag (s.events.any fun p => p.2.walk.isSome) ++ wflag s.sweep.isSome

/-- R179: the overrun flag is read and cleared. -/
def readStatusOwner (s : State) : Served :=
  { s with port := { s.port with overrun := false } }.served s.statusBody

/-- R179. -/
def execReadStatus (body : List Byte) (s : State) : Out := .next (request 0 .both body readStatusOwner s)

end Sys2Proof.Machine
end

