-- ==== Sys2Proof/Machine/Dispatch.lean ====
section
/-! DEFINITION. The meaning of each command: one arm for each row of the table of operations and events. -/

namespace Sys2Proof.Machine

def exec (i : Instr) (s : State) : Host.Outcome State Fault Refusal :=
  match i with
  | .hardReset selectAsserted => Sys2Proof.Machine.execHardReset selectAsserted s
  | .requestFrameDiscarded code body => Sys2Proof.Machine.execRequestFrameDiscarded code body s
  | .partialFrameDiscarded bytes => Sys2Proof.Machine.execPartialFrameDiscarded bytes s
  | .unknownRequest code body => Sys2Proof.Machine.execUnknownRequest code body s
  | .responseReady => Sys2Proof.Machine.execResponseReady s
  | .readSelect clocked => Sys2Proof.Machine.execReadSelect clocked s
  | .goLive body => Sys2Proof.Machine.execGoLive body s
  | .clearStore body => Sys2Proof.Machine.execClearStore body s
  | .readStatus body => Sys2Proof.Machine.execReadStatus body s
  | .enrol body => Sys2Proof.Machine.execEnrol body s
  | .readSubscriber body => Sys2Proof.Machine.execReadSubscriber body s
  | .nextSubscriber body => Sys2Proof.Machine.execNextSubscriber body s
  | .nextChangedSubscriber body => Sys2Proof.Machine.execNextChangedSubscriber body s
  | .changeTiers body => Sys2Proof.Machine.execChangeTiers body s
  | .bind body => Sys2Proof.Machine.execBind body s
  | .move body => Sys2Proof.Machine.execMove body s
  | .unbind body => Sys2Proof.Machine.execUnbind body s
  | .activate body => Sys2Proof.Machine.execActivate body s
  | .suspend body => Sys2Proof.Machine.execSuspend body s
  | .resume body => Sys2Proof.Machine.execResume body s
  | .setCeiling body => Sys2Proof.Machine.execSetCeiling body s
  | .closeSubscriber body => Sys2Proof.Machine.execCloseSubscriber body s
  | .retireSubscriber body => Sys2Proof.Machine.execRetireSubscriber body s
  | .defineChannel body => Sys2Proof.Machine.execDefineChannel body s
  | .stageChannelChange body => Sys2Proof.Machine.execStageChannelChange body s
  | .withdrawStagedChange body => Sys2Proof.Machine.execWithdrawStagedChange body s
  | .readChannel body => Sys2Proof.Machine.execReadChannel body s
  | .defineTier body => Sys2Proof.Machine.execDefineTier body s
  | .stageTierRate body => Sys2Proof.Machine.execStageTierRate body s
  | .readTier body => Sys2Proof.Machine.execReadTier body s
  | .enrolTap body => Sys2Proof.Machine.execEnrolTap body s
  | .retireTap body => Sys2Proof.Machine.execRetireTap body s
  | .readTap body => Sys2Proof.Machine.execReadTap body s
  | .resendTap body => Sys2Proof.Machine.execResendTap body s
  | .readSwitching body => Sys2Proof.Machine.execReadSwitching body s
  | .setLinkParameters body => Sys2Proof.Machine.execSetLinkParameters body s
  | .readLeg body => Sys2Proof.Machine.execReadLeg body s
  | .enrolElement body => Sys2Proof.Machine.execEnrolElement body s
  | .retireElement body => Sys2Proof.Machine.execRetireElement body s
  | .readElement body => Sys2Proof.Machine.execReadElement body s
  | .nextElement body => Sys2Proof.Machine.execNextElement body s
  | .setTopologyParameters body => Sys2Proof.Machine.execSetTopologyParameters body s
  | .setReference body => Sys2Proof.Machine.execSetReference body s
  | .setClock body => Sys2Proof.Machine.execSetClock body s
  | .adjustClock body => Sys2Proof.Machine.execAdjustClock body s
  | .readClock body => Sys2Proof.Machine.execReadClock body s
  | .topUp body => Sys2Proof.Machine.execTopUp body s
  | .postPayment body => Sys2Proof.Machine.execPostPayment body s
  | .postAdjustment body => Sys2Proof.Machine.execPostAdjustment body s
  | .collectStatement body => Sys2Proof.Machine.execCollectStatement body s
  | .setNextClose body => Sys2Proof.Machine.execSetNextClose body s
  | .setBillingParameters body => Sys2Proof.Machine.execSetBillingParameters body s
  | .readBilling body => Sys2Proof.Machine.execReadBilling body s
  | .defineEvent body => Sys2Proof.Machine.execDefineEvent body s
  | .cancelEvent body => Sys2Proof.Machine.execCancelEvent body s
  | .removeEvent body => Sys2Proof.Machine.execRemoveEvent body s
  | .readEvent body => Sys2Proof.Machine.execReadEvent body s
  | .nextEvent body => Sys2Proof.Machine.execNextEvent body s
  | .purchase body => Sys2Proof.Machine.execPurchase body s
  | .withdrawPurchase body => Sys2Proof.Machine.execWithdrawPurchase body s
  | .setEventParameters body => Sys2Proof.Machine.execSetEventParameters body s
  | .configureInput body => Sys2Proof.Machine.execConfigureInput body s
  | .readInputs body => Sys2Proof.Machine.execReadInputs body s
  | .fetchAlarm body => Sys2Proof.Machine.execFetchAlarm body s
  | .acknowledgeAlarm body => Sys2Proof.Machine.execAcknowledgeAlarm body s
  | .readAlarm body => Sys2Proof.Machine.execReadAlarm body s
  | .nextAlarm body => Sys2Proof.Machine.execNextAlarm body s
  | .readAlarmUnit body => Sys2Proof.Machine.execReadAlarmUnit body s
  | .setAlarmLevel body => Sys2Proof.Machine.execSetAlarmLevel body s
  | .setAlarmMask body => Sys2Proof.Machine.execSetAlarmMask body s
  | .secondEdge => Sys2Proof.Machine.execSecondEdge s
  | .referencePulse => Sys2Proof.Machine.execReferencePulse s
  | .lossTimerExpiry => Sys2Proof.Machine.execLossTimerExpiry s
  | .lineupTakesBoundary => Sys2Proof.Machine.execLineupTakesBoundary s
  | .eventTableTakesBoundary => Sys2Proof.Machine.execEventTableTakesBoundary s
  | .tapTableTakesBoundary => Sys2Proof.Machine.execTapTableTakesBoundary s
  | .silentCountdownExpiry tap => Sys2Proof.Machine.execSilentCountdownExpiry tap s
  | .meteringVisit => Sys2Proof.Machine.execMeteringVisit s
  | .endWalkVisit event => Sys2Proof.Machine.execEndWalkVisit event s
  | .sweepVisit => Sys2Proof.Machine.execSweepVisit s
  | .legTakesWork leg => Sys2Proof.Machine.execLegTakesWork leg s
  | .frameTransmitted leg => Sys2Proof.Machine.execFrameTransmitted leg s
  | .replyFrameReceived leg chars => Sys2Proof.Machine.execReplyFrameReceived leg chars s
  | .tryTimerExpiry leg => Sys2Proof.Machine.execTryTimerExpiry leg s
  | .pollCycleExpiry leg => Sys2Proof.Machine.execPollCycleExpiry leg s
  | .returnFaultBegins leg space => Sys2Proof.Machine.execReturnFaultBegins leg space s
  | .returnFaultEnds leg mark => Sys2Proof.Machine.execReturnFaultEnds leg mark s
  | .pinLevelChange input level => Sys2Proof.Machine.execPinLevelChange input level s
  | .debounceTimerExpiry input => Sys2Proof.Machine.execDebounceTimerExpiry input s
  | .frameCutShort cut => Sys2Proof.Machine.execFrameCutShort cut s

end Sys2Proof.Machine
end

