-- ==== Sys2Proof/WellFormed.lean ====
section
/-! DEFINITION. Well-formed commands: the operands the outside world can give a command. The meanings of Machine take any command; these checks
say which ones the part can be sent. -/

namespace Sys2Proof

/-- The body of a request row. -/
def Instr.body? : Instr → Option (List Byte)
  | .goLive body | .clearStore body | .readStatus body | .enrol body | .readSubscriber body | .nextSubscriber body
  | .nextChangedSubscriber body | .changeTiers body | .bind body | .move body | .unbind body | .activate body | .suspend body
  | .resume body | .setCeiling body | .closeSubscriber body | .retireSubscriber body | .defineChannel body
  | .stageChannelChange body | .withdrawStagedChange body | .readChannel body | .defineTier body | .stageTierRate body
  | .readTier body | .enrolTap body | .retireTap body | .readTap body | .resendTap body | .readSwitching body
  | .setLinkParameters body | .readLeg body | .enrolElement body | .retireElement body | .readElement body
  | .nextElement body | .setTopologyParameters body | .setReference body | .setClock body | .adjustClock body
  | .readClock body | .topUp body | .postPayment body | .postAdjustment body | .collectStatement body | .setNextClose body
  | .setBillingParameters body | .readBilling body | .defineEvent body | .cancelEvent body | .removeEvent body
  | .readEvent body | .nextEvent body | .purchase body | .withdrawPurchase body | .setEventParameters body
  | .configureInput body | .readInputs body | .fetchAlarm body | .acknowledgeAlarm body | .readAlarm body | .nextAlarm body
  | .readAlarmUnit body | .setAlarmLevel body | .setAlarmMask body => some body
  | .hardReset _ | .requestFrameDiscarded _ _ | .partialFrameDiscarded _ | .unknownRequest _ _ | .responseReady
  | .readSelect _ | .secondEdge | .referencePulse | .lossTimerExpiry | .lineupTakesBoundary | .eventTableTakesBoundary
  | .tapTableTakesBoundary | .silentCountdownExpiry _ | .meteringVisit | .endWalkVisit _ | .sweepVisit | .legTakesWork _
  | .frameTransmitted _ | .replyFrameReceived _ _ | .tryTimerExpiry _ | .pollCycleExpiry _ | .returnFaultBegins _ _
  | .returnFaultEnds _ _ | .pinLevelChange _ _ | .debounceTimerExpiry _ | .frameCutShort _ => none

/-- Section 11.2: a body length is one byte. -/
def bodyOk (body : List Byte) : Bool := body.length ≤ 255

/-- R172: whether the bytes of a select are a frame cut short: no read code first, and fewer bytes than its body length gives. -/
def isPartial (bytes : List Byte) : Bool := commandOfSelect bytes = .partialFrameDiscarded bytes

/-- The index of the plant leg a command names. -/
def legOk (leg : Nat) : Bool := leg < 4

/-- Section 9.1: 32 contact inputs. -/
def inputOk (input : Nat) : Bool := input < 32

/-- Section 3.1: 512 tap indexes. -/
def tapOk (tap : Nat) : Bool := tap < 512

/-- Section 8.1: an event id is 1 to 65,535. -/
def eventOk (event : Nat) : Bool := 1 ≤ event && event ≤ 65535

/-- The command is one the outside world can give. -/
def Instr.wf : Instr → Bool
  | .goLive body | .clearStore body | .readStatus body | .enrol body | .readSubscriber body | .nextSubscriber body
  | .nextChangedSubscriber body | .changeTiers body | .bind body | .move body | .unbind body | .activate body | .suspend body
  | .resume body | .setCeiling body | .closeSubscriber body | .retireSubscriber body | .defineChannel body
  | .stageChannelChange body | .withdrawStagedChange body | .readChannel body | .defineTier body | .stageTierRate body
  | .readTier body | .enrolTap body | .retireTap body | .readTap body | .resendTap body | .readSwitching body
  | .setLinkParameters body | .readLeg body | .enrolElement body | .retireElement body | .readElement body
  | .nextElement body | .setTopologyParameters body | .setReference body | .setClock body | .adjustClock body
  | .readClock body | .topUp body | .postPayment body | .postAdjustment body | .collectStatement body | .setNextClose body
  | .setBillingParameters body | .readBilling body | .defineEvent body | .cancelEvent body | .removeEvent body
  | .readEvent body | .nextEvent body | .purchase body | .withdrawPurchase body | .setEventParameters body
  | .configureInput body | .readInputs body | .fetchAlarm body | .acknowledgeAlarm body | .readAlarm body | .nextAlarm body
  | .readAlarmUnit body | .setAlarmLevel body | .setAlarmMask body => bodyOk body
  | .requestFrameDiscarded code body => code ≠ 0#8 && bodyOk body
  | .unknownRequest code body => unknownCode code && bodyOk body
  | .partialFrameDiscarded bytes => isPartial bytes
  | .silentCountdownExpiry tap => tapOk tap
  | .endWalkVisit event => eventOk event
  | .pinLevelChange input _ | .debounceTimerExpiry input => inputOk input
  | .legTakesWork leg | .frameTransmitted leg | .replyFrameReceived leg _ | .tryTimerExpiry leg | .pollCycleExpiry leg
  | .returnFaultBegins leg _ | .returnFaultEnds leg _ => legOk leg
  | .frameCutShort cut => legOk cut.leg && cut.characters ≤ 60
  | .hardReset _ | .responseReady | .readSelect _ | .secondEdge | .referencePulse | .lossTimerExpiry | .lineupTakesBoundary
  | .eventTableTakesBoundary | .tapTableTakesBoundary | .meteringVisit | .sweepVisit => true

end Sys2Proof
end

