-- ==== Sys2Proof/Safety.lean ====
section
/-! DEFINITION. The words in which the statements speak: a request accepted and answered, the requests' table, and the invariants of the
part. -/

namespace Sys2Proof

/-- Section 11.2, section 10.5: the body length of each request and the device modes that serve it. -/
def requestRow : Instr → Option (Nat × Machine.Modes)
  | .goLive _ | .clearStore _ | .readStatus _ | .nextChangedSubscriber _ | .readSwitching _ | .readClock _
  | .readBilling _ | .readInputs _ | .fetchAlarm _ | .readAlarmUnit _ => some (0, .both)
  | .enrol _ => some (19, .both)
  | .readSubscriber _ | .nextSubscriber _ | .unbind _ | .activate _ | .suspend _ | .resume _ | .closeSubscriber _
  | .retireSubscriber _ | .enrolElement _ | .collectStatement _ | .setBillingParameters _ => some (4, .both)
  | .changeTiers _ | .setLinkParameters _ | .withdrawPurchase _ | .configureInput _ => some (6, .both)
  | .bind _ | .move _ | .purchase _ => some (7, .both)
  | .setCeiling _ | .topUp _ | .postPayment _ | .postAdjustment _ => some (8, .both)
  | .defineChannel _ => some (12, .loadingOnly)
  | .stageChannelChange _ => some (16, .both)
  | .withdrawStagedChange _ | .readChannel _ | .readTier _ | .retireElement _ | .readElement _ | .setReference _
  | .adjustClock _ | .setEventParameters _ | .setAlarmMask _ => some (1, .both)
  | .defineTier _ => some (11, .loadingOnly)
  | .stageTierRate _ => some (3, .liveOnly)
  | .enrolTap _ | .acknowledgeAlarm _ | .readAlarm _ | .nextAlarm _ => some (3, .both)
  | .retireTap _ | .readTap _ | .resendTap _ | .readLeg _ | .nextElement _ | .setTopologyParameters _ | .cancelEvent _
  | .removeEvent _ | .readEvent _ | .nextEvent _ | .setAlarmLevel _ => some (2, .both)
  | .setClock _ => some (5, .both)
  | .setNextClose _ => some (4, .liveOnly)
  | .defineEvent _ => some (17, .both)
  | .hardReset _ | .requestFrameDiscarded _ _ | .partialFrameDiscarded _ | .unknownRequest _ _ | .responseReady
  | .readSelect _ | .secondEdge | .referencePulse | .lossTimerExpiry | .lineupTakesBoundary | .eventTableTakesBoundary
  | .tapTableTakesBoundary | .silentCountdownExpiry _ | .meteringVisit | .endWalkVisit _ | .sweepVisit | .legTakesWork _
  | .frameTransmitted _ | .replyFrameReceived _ _ | .tryTimerExpiry _ | .pollCycleExpiry _ | .returnFaultBegins _ _
  | .returnFaultEnds _ _ | .pinLevelChange _ _ | .debounceTimerExpiry _ | .frameCutShort _ => none

end Sys2Proof

namespace Sys2Proof.Machine

/-! ## Requests -/

/-- R172, R173: a request frame that arrives now is accepted: the port is not SERVING and no select from before the reset is pending. -/
abbrev State.listening (s : State) : Prop := s.port.state ≠ .serving ∧ s.port.selectIgnored = false

/-- R173, R175: the state in which a request with `n` body bytes has been accepted and its owner has answered `r`: a waiting response is
discarded and the port is SERVING. -/
def State.replied (s : State) (n : Nat) (r : Response) : State :=
  { s with port := { s.port with
      state := .serving, requestBuffer := [], responseBuffer := none, answer := some r, miso := List.replicate (2 + n) 0#8 } }

/-- R3: the account index leads to the record `r` at index `i` of the table, which is in canonical form. -/
abbrev State.holds (s : State) (account i : Nat) (r : Subscriber) : Prop :=
  s.subs.wf = true ∧ s.accounts.get? account = some i ∧ s.subs.get? i = some r

/-- The state with the record at an index replaced. -/
def State.withSub (s : State) (i : Nat) (r : Subscriber) : State := { s with subs := s.subs.modify i fun _ => r }

/-- The account a request names in its first four bytes: the requests on one household. -/
def household? : Instr → Option Nat
  | .readSubscriber b | .changeTiers b | .bind b | .move b | .unbind b | .activate b | .suspend b | .resume b | .setCeiling b
  | .closeSubscriber b | .retireSubscriber b | .topUp b | .postPayment b | .postAdjustment b | .collectStatement b | .purchase b
  | .withdrawPurchase b => some (u32 b 0)
  | _ => none

/-! ## Invariants -/

/-- The canonical form: every table lists its numbers in rising order, and the lists of slots, tiers, legs, inputs and alarm levels have
their lengths. -/
structure State.Formed (s : State) : Prop where
  subs : s.subs.wf = true
  accounts : s.accounts.wf = true
  events : s.events.wf = true
  taps : s.taps.wf = true
  elements : s.elements.wf = true
  alarms : s.alarms.table.wf = true
  slots : s.slots.length = 96
  tiers : s.tiers.length = 16
  legs : s.legs.length = 4
  inputs : s.inputs.length = 32
  levels : s.alarms.levels.length = 15

/-- R3: the account index holds exactly the accounts of the records in the table, each with its record's index. -/
structure State.Indexed (s : State) : Prop where
  subs : s.subs.wf = true
  found : ∀ account i, s.accounts.get? account = some i → ∃ r, s.subs.get? i = some r ∧ r.account = account
  listed : ∀ i r, s.subs.get? i = some r → s.accounts.get? r.account = some i

/-- R4: a PREPAID subscriber in state ACTIVE has a balance of at least one cent. -/
def State.Funded (s : State) : Prop :=
  ∀ i r balance, s.subs.get? i = some r → r.state = .active → r.purse = .prepaid balance → 1 ≤ balance

/-- R21: a subscriber's recorded binding and a tap's port binding always name each other. Every tap has four ports. -/
structure State.Bound (s : State) : Prop where
  subs : s.subs.wf = true
  taps : s.taps.wf = true
  four : ∀ i t, s.taps.get? i = some t → t.ports.length = 4
  there : ∀ i r p, s.subs.get? i = some r → r.tapPort = some p →
    1 ≤ p.port ∧ p.port ≤ 4 ∧ ∃ t, s.taps.get? p.tap = some t ∧ t.boundTo p.port = some i
  back : ∀ tap t port i, s.taps.get? tap = some t → 1 ≤ port → port ≤ 4 → t.boundTo port = some i →
    ∃ r, s.subs.get? i = some r ∧ r.tapPort = some ⟨tap, port⟩

/-- The tap of a leg's transaction and its origin queue. -/
def Leg.tapInFlight (l : Leg) : Option (Nat × QueueKind) :=
  match l.txn with
  | none => none
  | some t => match t.work with
    | .tap index _ origin _ => some (index, origin)
    | .poll _ _ _ => none

/-- R48, R49, R57: a tap stands in at most one place: on one switch queue once, in flight on one leg, or counting down. -/
structure State.Placed (s : State) : Prop where
  taps : s.taps.wf = true
  urgent : s.urgent.Nodup
  bulk : s.bulk.Nodup
  apart : ∀ i, i ∈ s.urgent → i ∉ s.bulk
  queued : ∀ i, i ∈ s.urgent ∨ i ∈ s.bulk → ∃ t, s.taps.get? i = some t ∧ t.origin = none ∧ t.countdown = none
  flying : ∀ (n : Nat) (l : Leg) (i : Nat) (q : QueueKind), s.legs[n]? = some l → l.tapInFlight = some (i, q) →
    ∃ t, s.taps.get? i = some t ∧ t.origin = some q ∧ t.countdown = none
  single : ∀ (m n : Nat) (k l : Leg) (i : Nat) (p q : QueueKind), s.legs[m]? = some k → s.legs[n]? = some l →
    k.tapInFlight = some (i, p) → l.tapInFlight = some (i, q) → m = n

/-- R88: every element is a leg root at depth 1, or stands one deeper than its parent, which is in the table, on its parent's leg; no element is deeper than
16. -/
structure State.Rooted (s : State) : Prop where
  place : ∀ e x, s.elements.get? e = some x → (x.parent = none ∧ x.depth = 1) ∨
    ∃ p y, x.parent = some p ∧ s.elements.get? p = some y ∧ x.depth = y.depth + 1 ∧ x.leg = y.leg
  depth : ∀ e x, s.elements.get? e = some x → x.depth ≤ 16

/-- R35, R159: a CARRIER input has a level sense. -/
def State.Sensed (s : State) : Prop := ∀ x ∈ s.inputs, x.role = .carrier → x.sense = .levelHigh ∨ x.sense = .levelLow

/-- R173: a response is buffered exactly while the port is WAITING, and (the model's choice, log 6) an answer is held exactly while a request is
served. -/
def State.PortInStep (s : State) : Prop :=
  (s.port.state = .waiting ↔ s.port.responseBuffer.isSome = true) ∧ (s.port.state = .serving ↔ s.port.answer.isSome = true)

end Sys2Proof.Machine
end

