-- ==== Sys2Proof/Certificates/Slice0/Obligations.lean ====
section
/-! DEFINITION. The statements for the provers. A statement of a command's result is a completion statement too: its conclusion is that
`exec` answers the next state given, with everything not named there as it was. -/

open Sys2Proof Sys2Proof.Machine

/-! ## The queue of commands, reset -/

/-- The model's own frame (log 1, log 2): a step takes the command at the front of the queue and runs it with the rest of the queue waiting. With no
command waiting (the model's choice, log 4) one millisecond passes on the second phase, the loss timer, the legs' timers and the running
debounce timers, unless a timed event is due, before which no time passes. -/
def Obligations.StepRunsTheFrontCommand : Prop :=
  (∀ (c : Instr) (q : List Instr) (s : State), step { s with pending := c :: q } = exec c { s with pending := q }) ∧
  (∀ s : State, s.pending = [] → s.eventDue = true → step s = .next s) ∧
  (∀ s : State, s.pending = [] → s.eventDue = false → step s = .next { s with
    clock := { s.clock with phase := s.clock.phase + 1, lossTimer := s.clock.lossTimer.map (· + 1) }
    legs := s.legs.map fun l =>
      { l with tryTimer := if l.txn.isSome then l.tryTimer - 1 else l.tryTimer, pollTimer := l.pollTimer.map (· - 1) }
    inputs := s.inputs.map fun x => { x with timer := x.timer.map (· + 1) } })

/-- R176, R25, R38, R66, R108, R120, R156, R161: what a hard reset leaves, from any state; the contact pins keep their levels, which the debounced
levels take (the model's own: the queue, and log 27, log 30). -/
def Obligations.HardResetRestoresEveryBlock : Prop :=
  ∀ (s : State) (b : Bool), ∃ t : State, exec (.hardReset b) s = .next t ∧
    t.mode = .loading ∧ t.port = ⟨.idle, [], none, false, none, b, []⟩ ∧ t.rdy = false ∧ t.attn = false ∧
    t.subs = [] ∧ t.accounts = [] ∧ t.events = [] ∧ t.taps = [] ∧ t.elements = [] ∧
    t.urgent = [] ∧ t.bulk = [] ∧ t.sweep = none ∧ t.scopes = none ∧
    (∀ n, n < 96 → t.slots[n]? = some (⟨⟨.unused, List.replicate 8 0x20#8, none, false, false⟩, none, false, .none⟩ : Slot)) ∧
    (∀ n, n < 16 → t.tiers[n]? = some (⟨0, none, List.replicate 8 0x20#8⟩ : Tier)) ∧
    (∀ n, n < 4 → t.legs[n]? = some (⟨.idle, none, 0, 0, none, .r19200, none, ⟨0, 0, 0, 0, 0, 0, 0⟩, false, [], [], 0⟩ : Leg)) ∧
    (∀ l ∈ t.legs, ∀ n, l.tx n = .high) ∧
    t.link = ⟨.r19200, 150, 2, 30, 10⟩ ∧ t.topo = ⟨3, 30⟩ ∧ t.darkThreshold = 10 ∧
    t.clock = ⟨0, 0, 0, false, .notSelected, none, none, none, 0, 0, 0⟩ ∧ t.billing = ⟨0, none, none, 43200, 120, 0, none⟩ ∧
    (∀ (n : Nat) (x : Input), s.inputs[n]? = some x → t.inputs[n]? = some (⟨.none, 0, .levelHigh, 100, x.pin, x.pin, none, none, false⟩ : Input)) ∧
    t.alarms = ⟨[], none, [7, 7, 6, 6, 4, 5, 5, 4, 3, 3, 3, 2, 2, 1, 2], 0, 0⟩ ∧ t.pending = s.pending

/-- The reset state has every invariant stated below. -/
def Obligations.ResetHasTheInvariants : Prop :=
  State.reset.Formed ∧ State.reset.Indexed ∧ State.reset.Funded ∧ State.reset.Bound ∧ State.reset.Placed ∧ State.reset.PortInStep ∧
    State.reset.Rooted ∧ State.reset.Sensed

/-! ## Invariants that every step keeps -/

/-- Every step keeps the canonical form of the tables and the sizes of the lists; with them R88: it keeps the elements a tree, each one deeper than its parent
and at most 16 deep; and R35, R159: every CARRIER input keeps a level sense. -/
def Obligations.StepKeepsTheForm : Prop :=
  (∀ s t : State, s.Formed → step s = .next t → t.Formed) ∧
  (∀ s t : State, s.Formed → s.Rooted → step s = .next t → t.Rooted) ∧
  (∀ s t : State, s.Sensed → step s = .next t → t.Sensed)

/-- R3: every step keeps the account index in agreement with the table. -/
def Obligations.StepKeepsTheAccountIndex : Prop := ∀ s t : State, s.Indexed → step s = .next t → t.Indexed

/-- R4: no step leaves a PREPAID subscriber ACTIVE without a cent. -/
def Obligations.StepKeepsActivePrepaidFunded : Prop := ∀ s t : State, s.Funded → step s = .next t → t.Funded

/-- R21: every step keeps the two halves of every binding in agreement. -/
def Obligations.StepKeepsTheBindings : Prop := ∀ s t : State, s.Bound → step s = .next t → t.Bound

/-- R49: no tap comes to stand on the two queues together or twice on either, nor on a queue while its command is in flight. -/
def Obligations.StepKeepsTapsInOnePlace : Prop := ∀ s t : State, s.Placed → step s = .next t → t.Placed

/-- R173: every step keeps the response buffer of the port in step with its state: a response is buffered exactly in WAITING. That the owner's answer is held
exactly in SERVING, until RESPONSE_READY places it, is the model's choice (log 6). -/
def Obligations.StepKeepsThePortInStep : Prop := ∀ s t : State, s.PortInStep → step s = .next t → t.PortInStep

/-- R176: the mode moves only by Go Live, from LOADING to LIVE, and by Clear Store and a hard reset, to LOADING. R109, R110, R113, R116: the minute
counter moves only at a second edge from second 59, by one with its wrap, by Set Clock in LOADING, and at a hard reset. -/
def Obligations.WhatMovesTheModeAndTheMinute : Prop :=
  (∀ (c : Instr) (s t : State), exec c s = .next t → t.mode ≠ s.mode →
    (t.mode = .live ∧ ∃ body, c = .goLive body) ∨
    (t.mode = .loading ∧ ((∃ body, c = .clearStore body) ∨ ∃ b, c = .hardReset b))) ∧
  (∀ (c : Instr) (s t : State), exec c s = .next t → t.clock.minute ≠ s.clock.minute →
    ((c = .secondEdge ∨ c = .referencePulse) ∧ s.clock.second = 59 ∧ t.clock.minute = (s.clock.minute + 1) % 4294967296) ∨
    ((∃ body, c = .setClock body) ∧ s.mode = .loading) ∨ ∃ b, c = .hardReset b)

/-! ## The Request Port -/

/-- R171, section 11.2: the bytes of a select spell the command they were written for: a request of known code, a read select, an unknown request and a
partial frame. A frame discarded while SERVING is left out: its bytes spell the request itself. -/
def Obligations.SelectBytesSpellTheirCommand : Prop :=
  ∀ (c : Instr) (bytes : List Byte), c.wf = true → (∀ code body, c ≠ .requestFrameDiscarded code body) →
    selectOf c = some bytes → commandOfSelect bytes = c

/-- A command that carries a complete request frame, with the frame's body: the 64 requests, an unknown request and a discarded frame. -/
def carriesFrame (c : Instr) (body : List Byte) : Prop :=
  c.body? = some body ∨ (∃ code, c = .requestFrameDiscarded code body) ∨ ∃ code, c = .unknownRequest code body ∧ unknownCode code = true

/-- R172, R180: a select deasserted before its frame is complete, or before its first byte, changes nothing but what the buffer holds and what was shifted out, in
any state of the port; a hard reset during a select leaves no frame, and a select asserted as the part leaves reset is ignored, whatever it carries, after which
selects are taken afresh. MISO is high-impedance after every select and out of State.reset, and after a hard reset unless the select is then asserted. That a select is one command, that a flag of the port marks the select to be ignored and that miso records the bytes shifted out are the
model's choice (log 25), and so are the empty record after a hard reset (log 30) and the deasserted select at power-on (log 46). -/
def Obligations.PartialFramesAndTheSelectAtReset : Prop :=
  (∀ (bytes : List Byte) (s : State), s.port.selectIgnored = false →
    exec (.partialFrameDiscarded bytes) s =
      .next { s with port := { s.port with requestBuffer := [], miso := List.replicate bytes.length 0#8 } }) ∧
  (∀ (b : Bool) (s : State), ∃ t : State, exec (.hardReset b) s = .next t ∧ t.port = ⟨.idle, [], none, false, none, b, []⟩ ∧
    t.misoHighImpedance = !b) ∧
  (∀ (c : Instr) (s : State), s.port.selectIgnored = true →
    ((∃ body, carriesFrame c body) ∨ (∃ bytes, c = .partialFrameDiscarded bytes) ∨ ∃ n, c = .readSelect n) →
    exec c s = .next { s with port := { s.port with selectIgnored := false } }) ∧
  (∀ (c : Instr) (s : State),
    (∃ body, carriesFrame c body) ∨ (∃ bytes, c = .partialFrameDiscarded bytes) ∨ (∃ n, c = .readSelect n) →
    ∃ t : State, exec c s = .next t ∧ t.misoHighImpedance = true) ∧
  State.reset.misoHighImpedance = true

/-- R175: the common tests, in their order, over the whole request code table: an unknown code is answered UNKNOWN_REQUEST, a wrong body length
BAD_LENGTH, and a request that the device mode does not serve WRONG_MODE; nothing but the port changes. -/
def Obligations.CommonRefusals : Prop :=
  (∀ (code : Byte) (body : List Byte) (s : State), s.listening → unknownCode code = true →
    exec (.unknownRequest code body) s = .next (s.replied body.length ⟨.unknownRequest, []⟩)) ∧
  (∀ (c : Instr) (body : List Byte) (n : Nat) (m : Modes) (s : State),
    c.body? = some body → requestRow c = some (n, m) → s.listening →
    (body.length ≠ n → exec c s = .next (s.replied body.length ⟨.badLength, []⟩)) ∧
    (body.length = n → m.allow s.mode = false → exec c s = .next (s.replied n ⟨.wrongMode, []⟩)))

/-- Every command has its effect in every state: none stops the part. R173, R175: every accepted request, of any of the 64, ends with the port SERVING, RDY
low and an answer, and one that is refused changes nothing but the port and has an empty body (R8). -/
def Obligations.EveryCommandIsServed : Prop :=
  (∀ (c : Instr) (s : State), ∃ t, exec c s = .next t) ∧
  (∀ (c : Instr) (body : List Byte) (s : State), c.body? = some body → s.listening →
    ∃ (t : State) (r : Response), exec c s = .next t ∧ t.port.state = .serving ∧ t.rdy = false ∧ t.port.answer = some r ∧
      (r.status ≠ .ok → r.body = [] ∧ t = s.replied body.length r))

/-- R173, R174: a complete request frame that arrives while the port is SERVING is discarded, whatever its code, and sets the overrun flag; the request being
served and a held answer are not touched. The owner's answer makes the port WAITING and RDY high; a whole read returns the response
and frees the port, a read cut short leaves it waiting, and a read in IDLE or SERVING shifts out the empty frame. That the
record of MISO ends with a request frame's last byte and starts after the read code is the model's choice (log 25, log 45). -/
def Obligations.SelectsAndTheAnswer : Prop :=
  (∀ (c : Instr) (body : List Byte) (s : State), carriesFrame c body → s.port.state = .serving → s.port.selectIgnored = false →
    exec c s = .next { s with port := { s.port with
      overrun := true, requestBuffer := [], miso := List.replicate (2 + body.length) 0#8 } }) ∧
  (∀ (r : Response) (s : State), s.port.state = .serving → s.port.answer = some r →
    ∃ t : State, exec .responseReady s = .next t ∧ t.rdy = true ∧
      t = { s with port := { s.port with state := .waiting, responseBuffer := some r, answer := none } }) ∧
  (∀ (r : Response) (n : Nat) (s : State), s.port.selectIgnored = false → s.port.state = .waiting → s.port.responseBuffer = some r →
    (3 + r.body.length ≤ n → exec (.readSelect n) s = .next { s with port := { s.port with
      state := .idle, responseBuffer := none
      miso := BitVec.ofNat 8 r.status.code :: BitVec.ofNat 8 (r.body.length / 256) :: BitVec.ofNat 8 r.body.length ::
        r.body ++ List.replicate (n - (3 + r.body.length)) 0#8 } }) ∧
    (n < 3 + r.body.length → exec (.readSelect n) s = .next { s with port := { s.port with
      miso := (BitVec.ofNat 8 r.status.code :: BitVec.ofNat 8 (r.body.length / 256) :: BitVec.ofNat 8 r.body.length ::
        r.body).take n } })) ∧
  (∀ (n : Nat) (s : State), s.port.selectIgnored = false → s.port.state ≠ .waiting →
    exec (.readSelect n) s = .next { s with port := { s.port with
      miso := [0xFF#8, 0x00#8, 0x00#8].take n ++ List.replicate (n - 3) 0#8 } })

/-- R177: what Go Live does to every element, tap and leg, to the mode, the period and the sweep, and its response.
The two minutes of the response are optional fields with their presence bytes (R180). -/
def Obligations.GoLiveStartsThePart : Prop :=
  ∀ s : State, s.listening → s.mode = .loading → s.legs.length = 4 → (∀ e x, s.elements.get? e = some x → x.leg < 4) →
    ∃ t : State, exec (.goLive []) s = .next (t.replied 0
        ⟨.ok, w8 1 ++ w32 s.clock.minute ++ w8 1 ++ w32 (s.clock.minute + s.billing.length)⟩) ∧
      t.mode = .live ∧
      (∀ e x, s.elements.get? e = some x → t.elements.get? e =
        some { x with state := .suspect, miss := 0, since := none, priority := false, pollDue := true }) ∧
      (∀ i, t.taps.get? i = (s.taps.get? i).map fun x => { x with ports := x.ports.map fun p => { p with confirmed := none } }) ∧
      (∀ e, s.elements.get? e = none → t.elements.get? e = none) ∧
      t.billing = { s.billing with start := some s.clock.minute, nextClose := some (s.clock.minute + s.billing.length) } ∧
      (s.sweep = none → t.sweep = some ⟨.all, 0⟩ ∧ t.scopes = s.scopes) ∧
      (∀ w, s.sweep = some w → t.sweep = some w ∧ t.scopes = some .all) ∧
      t.legs = s.legs.map (fun l => { l with pollTimer := some (s.link.pollCycle * 1000) }) ∧
      t = { s with
        mode := t.mode, elements := t.elements, taps := t.taps, billing := t.billing, sweep := t.sweep, scopes := t.scopes, legs := t.legs }

/-- R36, R82, R108, R156, R161: the causes of alarms that outlast Clear Store: a dark slot, a leg in FAULT, HOLDOVER, a standing contact. -/
def outlasts (s : State) (kind : AlarmKind) (subject : Nat) : Prop :=
  (kind = .channelDark ∧ ∃ x, s.slots[subject]? = some x ∧ x.dark = true) ∨
  (kind = .legReturnFault ∧ ∃ l, s.legs[subject]? = some l ∧ l.fault.isSome) ∨
  (kind = .refLost ∧ subject = 0 ∧ s.clock.ref = .holdover) ∨
  (kind = .contact ∧ ∃ x, s.inputs[subject]? = some x ∧ x.standing = true)

/-- R178, R25, R66, R83, R161: what Clear Store empties and what it keeps. Where no cause of an alarm outlasts it the alarm table is empty; each entry
it leaves is of a cause that does, and each such cause of a kind above level 0 is raised anew while the table of 128 has room, and TABLE_OVERFLOW where it has not
(in a free order, log 7, of which nothing is said). R179: Read Status reports the overrun flag as it stood and
clears it, and changes nothing else.
That a leg with a transaction takes the bit rate in force at Clear Store is the model's choice (log 13), and that its return-fault measurement then restarts where
the rate is a new one (log 43). Places and widths of response bytes that the manual leaves open are the model's choice (log 9). -/
def Obligations.ClearStoreAndReadStatus : Prop :=
  (∀ s : State, s.listening →
    ∃ t : State, exec (.clearStore []) s = .next (t.replied 0 ⟨.ok, []⟩) ∧
      t.mode = .loading ∧ t.subs = [] ∧ t.accounts = [] ∧ t.events = [] ∧ t.taps = [] ∧ t.elements = [] ∧
      t.urgent = [] ∧ t.bulk = [] ∧ t.sweep = none ∧ t.scopes = none ∧
      t.slots = s.slots.map (fun x => ⟨⟨.unused, List.replicate 8 0x20#8, none, false, false⟩, none, x.dark, .none⟩) ∧
      t.tiers = s.tiers.map (fun _ => ⟨0, none, List.replicate 8 0x20#8⟩) ∧
      t.legs = s.legs.map (fun l => { l with
        activity := .idle, txn := none, tryTimer := 0, pollTimer := none, counters := ⟨0, 0, 0, 0, 0, 0, 0⟩, rx := []
        rate := if l.txn.isSome then s.link.rate else l.rate
        measured := if l.txn.isSome ∧ l.rate ≠ s.link.rate then 0 else l.measured }) ∧
      t.clock = { s.clock with pending := none } ∧
      t.billing = ⟨0, none, none, s.billing.length, s.billing.threshold, 0, none⟩ ∧
      ((∀ kind subject, ¬ outlasts s kind subject) → t.alarms = { s.alarms with table := [], overflow := none, seq := 0 }) ∧
      (∀ k e, t.alarms.table.get? k = some e → outlasts s e.kind e.subject ∧ e.state = .raised) ∧
      (s.slots.length ≤ 96 → s.legs.length ≤ 4 → s.inputs.length ≤ 32 → ∀ causes : List (AlarmKind × Nat), causes.Nodup →
        (∀ kind subject, (kind, subject) ∈ causes ↔ outlasts s kind subject ∧ 0 < s.alarms.level kind) →
        t.alarms.table.length = min causes.length 128 ∧
        (causes.length ≤ 128 → t.alarms.overflow = none ∧ ∀ kind subject, (kind, subject) ∈ causes →
          ∃ seq, 1 ≤ seq ∧ seq ≤ causes.length ∧ t.alarms.table.get? (alarmKey kind subject) =
            some ⟨kind, subject, .condition, .raised, 1, seq, ⟨s.clock.minute, s.clock.second⟩, ⟨s.clock.minute, s.clock.second⟩⟩) ∧
        (128 < causes.length → 0 < s.alarms.level .tableOverflow → ∃ e, t.alarms.overflow = some e ∧ e.kind = .tableOverflow ∧ e.state = .raised)) ∧
      t.alarms.levels = s.alarms.levels ∧ t.alarms.mask = s.alarms.mask ∧
      t.port = s.port ∧ t.link = s.link ∧ t.topo = s.topo ∧ t.darkThreshold = s.darkThreshold ∧ t.inputs = s.inputs ∧
      t.announced = s.announced ∧ t.pending = s.pending) ∧
  (∀ s : State, s.listening →
    exec (.readStatus []) s = .next ({ s with port := { s.port with overrun := false } }.replied 0
      ⟨.ok, w8 (if s.mode = DeviceMode.live then 1 else 0) ++ w8 (if s.port.overrun then 1 else 0) ++ w32 s.clock.minute ++ w8 s.clock.second
        ++ w16 s.subs.length ++ w16 s.taps.length ++ w8 s.elements.length ++ w8 s.events.length
        ++ w8 s.alarms.table.length ++ w8 s.alarms.presentableCount
        ++ w8 (if s.billing.pass.isSome then 1 else 0) ++ w8 (if s.events.any (fun p => p.2.walk.isSome) then 1 else 0)
        ++ w8 (if s.sweep.isSome then 1 else 0)⟩))

/-! ## Needs and sweep requests -/

/-- R49: where a need leaves its tap, row by row of the rule's table; the need changes nothing else. -/
def Obligations.NeedIsTakenWhereTheTapStands : Prop :=
  ∀ (s : State) (kind : QueueKind) (i : Nat) (t : Tap), s.taps.get? i = some t →
    (t.origin.isSome → s.need kind i = { s with taps := s.taps.modify i fun t => { t with dirty := true } }) ∧
    (t.origin = none → i ∈ s.urgent → s.need kind i = s) ∧
    (t.origin = none → i ∉ s.urgent → i ∈ s.bulk →
      s.need .bulk i = s ∧
      s.need .urgent i = { s with urgent := s.urgent ++ [i], bulk := s.bulk.filter (· != i) }) ∧
    (t.origin = none → i ∉ s.urgent → i ∉ s.bulk → t.countdown.isSome → s.need kind i = s) ∧
    (t.origin = none → i ∉ s.urgent → i ∉ s.bulk → t.countdown = none →
      s.need .urgent i = { s with urgent := s.urgent ++ [i] } ∧ s.need .bulk i = { s with bulk := s.bulk ++ [i] })

/-- R62: a sweep request starts a sweep at index 0, or joins the pending scope set; where the set becomes ALL, or is ALL already, each subtree it
absorbs has its taps' confirmed settings made absent at once, but for taps whose countdown runs; queues and sweep stay. -/
def Obligations.SweepRequestStartsOrJoins : Prop :=
  ∀ (s : State) (e : Nat),
    (s.sweep = none →
      s.requestSweep .all = { s with sweep := some ⟨.all, 0⟩ } ∧
      s.requestSweep (.subtree e) = { s with sweep := some ⟨.subtrees [e], 0⟩ }) ∧
    (∀ w, s.sweep = some w → s.scopes = none →
      s.requestSweep .all = { s with scopes := some .all } ∧
      s.requestSweep (.subtree e) = { s with scopes := some (.subtrees [e]) }) ∧
    (∀ w es, s.sweep = some w → s.scopes = some (.subtrees es) →
      (e ∈ es → s.requestSweep (.subtree e) = s) ∧
      (e ∉ es → es.length < 8 → s.requestSweep (.subtree e) = { s with scopes := some (.subtrees (es ++ [e])) })) ∧
    (∀ w, s.sweep = some w → s.scopes = some .all → s.requestSweep .all = s) ∧
    (∀ w es absorbed request, s.sweep = some w →
      ((s.scopes = some .all ∧ request = .subtree e ∧ absorbed = [e]) ∨
        (s.scopes = some (.subtrees es) ∧ request = .all ∧ absorbed = es) ∨
        (s.scopes = some (.subtrees es) ∧ request = .subtree e ∧ e ∉ es ∧ 8 ≤ es.length ∧ absorbed = es ++ [e])) →
      ∃ taps, s.requestSweep request = { s with scopes := some .all, taps := taps } ∧
        ∀ i, taps.get? i = (s.taps.get? i).map fun t =>
          if t.countdown = none ∧ ∃ x ∈ absorbed, s.under x t.feeding = true
            then { t with ports := t.ports.map fun p => { p with confirmed := none } } else t)

/-! ## Subscriber records (chapter 1) -/

/-- R9, R10, R21: an Enrol that passes its tests creates the record at the lowest free index, with its entry in the account index and, where a tap
port is given, both halves of the binding and an urgent need.
Places and widths of response bytes that the manual leaves open are the model's choice (log 9). -/
def Obligations.EnrolCreatesTheRecord : Prop :=
  ∀ (s : State) (body : List Byte) (f : EnrolFields), s.listening → body.length = 19 → f = enrolFields body → f.inRange = true →
    (s.mode = .loading ∨ (subStateOf f.state = some .new ∧ f.money = 0)) →
    s.accounts.get? f.account = none → s.subs.wf = true → s.subs.length < 2048 →
    (∀ p, f.tapPort = some p → ∃ x, s.taps.get? p.tap = some x ∧ x.boundTo p.port = none) →
    ∃ (i : Nat) (t : State), exec (.enrol body) s = .next (t.replied 19 ⟨.ok, w16 i⟩) ∧
      s.subs.get? i = none ∧ (∀ j, j < i → (s.subs.get? j).isSome) ∧
      t.subs.get? i = some { f.record with tapPort := f.tapPort } ∧ (∀ j, j ≠ i → t.subs.get? j = s.subs.get? j) ∧
      t.accounts.get? f.account = some i ∧ (∀ a, a ≠ f.account → t.accounts.get? a = s.accounts.get? a) ∧
      (f.tapPort = none → t = { s with subs := t.subs, accounts := t.accounts }) ∧
      (∀ p, f.tapPort = some p →
        t = { s with subs := t.subs, accounts := t.accounts
                     taps := s.taps.modify p.tap fun x => x.withBound p.port (some i) }.need .urgent p.tap)

/-- R11, R12, R13: the three reads of a record; the first two change nothing, Next Changed Subscriber clears the flag it reports. Section 11.4: the
39-byte layout of their body. R180 reads any byte but 0x00 as a set flag: that the bytes of statement waiting, the changed flag and episode present are 0x01 when
set is the model's choice (log 9). -/
def Obligations.SubscriberReads : Prop :=
  ((∀ (s : State) (body : List Byte) (i : Nat) (r : Subscriber), s.listening → body.length = 4 → s.holds (u32 body 0) i r →
    exec (.readSubscriber body) s = .next (s.replied 4 ⟨.ok, subscriberBody i r⟩)) ∧
  (∀ (s : State) (body : List Byte) (a i : Nat) (r : Subscriber), s.listening → body.length = 4 → s.accounts.wf = true →
    u32 body 0 < a → (∀ b, u32 body 0 < b → b < a → s.accounts.get? b = none) → s.holds a i r →
    exec (.nextSubscriber body) s = .next (s.replied 4 ⟨.ok, subscriberBody i r⟩)) ∧
  (∀ (s : State) (a i : Nat) (r : Subscriber), s.listening → s.accounts.wf = true → s.holds a i r → r.changed = true →
    (∀ b j x, b < a → s.holds b j x → x.changed = false) →
    exec (.nextChangedSubscriber []) s =
      .next ((s.withSub i { r with changed := false }).replied 0 ⟨.ok, subscriberBody i r⟩))) ∧
  (∀ (i : Nat) (r : Subscriber) (b : List Byte), b = subscriberBody i r → i < 2048 → r.account < 4294967296 →
    r.purchases.length ≤ 4 → (∀ p, r.tapPort = some p → p.tap < 512 ∧ p.port ≤ 4) →
    b.length = 39 ∧ u16 b 0 = i ∧ u32 b 2 = r.account ∧ u8 b 7 = r.state.code ∧ tiersAt b 8 = r.tiers ∧
    (r.tapPort = none → u16 b 10 = 0 ∧ u8 b 12 = 0) ∧
    (∀ p, r.tapPort = some p → u16 b 10 = p.tap ∧ u8 b 12 = p.port) ∧
    (∀ balance, r.purse = .prepaid balance → balance ≤ 99999999 → u8 b 6 = 0 ∧ i32 b 13 = balance ∧ u32 b 17 = 0) ∧
    (∀ owed ceiling, r.purse = .account owed ceiling → -99999999 ≤ owed → owed ≤ 99999999 → ceiling ≤ 99999999 →
      u8 b 6 = 1 ∧ i32 b 13 = owed ∧ u32 b 17 = ceiling) ∧
    (r.chargedMin ≤ 65535 → u16 b 21 = r.chargedMin) ∧ (r.creditedMin ≤ 65535 → u16 b 23 = r.creditedMin) ∧
    u8 b 25 = (if r.episode.isSome then 1 else 0) ∧ (r.episode = none → u16 b 26 = 0) ∧
    (∀ e, r.episode = some e → e.minutes ≤ 65535 → u16 b 26 = e.minutes) ∧ u8 b 28 = r.purchases.length ∧
    (∀ n, r.purchases.length ≤ n → n < 4 → u16 b (29 + 2 * n) = 0) ∧
    (∀ n id, r.purchases[n]? = some id → id ≤ 65535 → u16 b (29 + 2 * n) = id) ∧
    u8 b 37 = (if r.slot.isSome then 1 else 0) ∧ u8 b 38 = (if r.changed then 1 else 0))

/-- R4, R14, R15, R16, R20: Activate on a NEW record and Resume on a SUSPENDED one put it in LAPSED when it is short of funds, else in ACTIVE; Suspend and
Change Tiers; each with the urgent need of a bound record and nothing else touched.
Places and widths of response bytes that the manual leaves open are the model's choice (log 9). -/
def Obligations.StatesAndTiersOfARecord : Prop :=
  ∀ (s : State) (body : List Byte) (i : Nat) (r : Subscriber), s.listening → s.holds (u32 body 0) i r →
    (∀ x : SubState, body.length = 4 →
      ((x = .lapsed ∧ (r.purse = .prepaid 0 ∨ ∃ owed ceiling, r.purse = .account owed ceiling ∧ (ceiling : Int) < owed)) ∨
        (x = .active ∧ ((∃ b, r.purse = .prepaid b ∧ b ≠ 0) ∨ ∃ owed ceiling, r.purse = .account owed ceiling ∧ owed ≤ ceiling))) →
      (r.state = .new → exec (.activate body) s =
        .next (((s.withSub i { r with state := x }).needFor r.tapPort).replied 4 ⟨.ok, w8 x.code⟩)) ∧
      (r.state = .suspended → exec (.resume body) s =
        .next (((s.withSub i { r with state := x }).needFor r.tapPort).replied 4 ⟨.ok, w8 x.code⟩))) ∧
    (body.length = 4 → r.state = .active ∨ r.state = .lapsed →
      exec (.suspend body) s = .next (((s.withSub i { r with state := .suspended }).needFor r.tapPort).replied 4 ⟨.ok, []⟩)) ∧
    (body.length = 6 → r.state ≠ .closed →
      exec (.changeTiers body) s =
        .next (((s.withSub i { r with tiers := BitVec.ofNat 16 (u16 body 4) }).needFor r.tapPort).replied 6 ⟨.ok, []⟩))

/-- R17: the table of Set Ceiling. A change of state makes the urgent need of a bound record; no change makes none.
Places and widths of response bytes that the manual leaves open are the model's choice (log 9). -/
def Obligations.SetCeilingRetests : Prop :=
  ∀ (s : State) (body : List Byte) (i : Nat) (r : Subscriber) (owed : Int) (old : Nat) (x : SubState),
    s.listening → body.length = 8 → u32 body 4 ≤ 99999999 → s.holds (u32 body 0) i r → r.purse = .account owed old → r.state ≠ .closed →
    ((r.state = .active ∨ r.state = .lapsed) ∧ (u32 body 4 : Int) < owed ∧ x = .lapsed ∨
      (r.state = .active ∨ r.state = .lapsed) ∧ owed ≤ u32 body 4 ∧ x = .active ∨
      (r.state = .new ∨ r.state = .suspended) ∧ x = r.state) →
    (x ≠ r.state → exec (.setCeiling body) s =
      .next (((s.withSub i { r with purse := .account owed (u32 body 4), state := x }).needFor r.tapPort).replied 8 ⟨.ok, w8 x.code⟩)) ∧
    (x = r.state → exec (.setCeiling body) s =
      .next ((s.withSub i { r with purse := .account owed (u32 body 4) }).replied 8 ⟨.ok, w8 x.code⟩))

/-- R5: the state in which the record at an index has become `r` by an automatic change: the urgent need of a bound record, and CREDIT_CHANGE raised. -/
def changedByThePart (s : State) (i : Nat) (r : Subscriber) : State :=
  { (s.withSub i r).needFor r.tapPort with alarms := s.alarms.raise .creditChange 0 .occurrence ⟨s.clock.minute, s.clock.second⟩ }

/-- R146: a record to which a price has been returned. -/
def givenBack (r : Subscriber) (price : Nat) : Subscriber :=
  if price = 0 then r
  else match r.purse with
    | .prepaid balance => { r with
        purse := .prepaid (min (balance + price) 99999999)
        refundCents := min (r.refundCents + (min (balance + price) 99999999 - balance)) 99999999 }
    | .account _ _ => { r with refundCents := min (r.refundCents + price) 99999999 }

/-- R126: a record to which an episode's pending credit has been granted. -/
def credited (r : Subscriber) (e : Episode) : Subscriber :=
  match r.purse with
  | .account _ _ => { r with creditAcc := r.creditAcc + e.pendingCm, creditedMin := r.creditedMin + e.pendingMin }
  | .prepaid balance => { r with
      purse := .prepaid (min (balance + (r.creditRem + e.pendingCm) / 43200) 99999999)
      returned := r.returned + (r.creditRem + e.pendingCm) / 43200, creditRem := (r.creditRem + e.pendingCm) % 43200
      creditedMin := r.creditedMin + e.pendingMin }

/-- R131: a record whose figures of a period have been written to its statement slot, or merged into the statement that waits there; then the period fields
are 0 (R121). -/
def stated (r : Subscriber) (period tier credit : Nat) (net : Int) (final : Bool) : Subscriber :=
  { r with
    drawn := 0, returned := 0, eventCents := 0, refundCents := 0, adjCents := 0, chargedMin := 0, creditedMin := 0
    slot := some <| match r.slot with
      | none => {
          firstPeriod := period, lastPeriod := period, spanned := 1, tier := min tier 99999999, credit := min credit 99999999
          event := r.eventCents, refund := r.refundCents, adjustment := r.adjCents, net := net
          after := match r.purse with | .prepaid balance => (balance : Int) | .account owed _ => owed
          chargedMin := r.chargedMin, creditedMin := r.creditedMin, final := final }
      | some old => {
          firstPeriod := old.firstPeriod, lastPeriod := period, spanned := min (old.spanned + 1) 255
          tier := min (old.tier + tier) 99999999, credit := min (old.credit + credit) 99999999
          event := min (old.event + r.eventCents) 99999999, refund := min (old.refund + r.refundCents) 99999999
          adjustment := max (-99999999) (min (old.adjustment + r.adjCents) 99999999)
          net := max (-99999999) (min (old.net + net) 99999999)
          after := match r.purse with | .prepaid balance => (balance : Int) | .account owed _ => owed
          chargedMin := min (old.chargedMin + r.chargedMin) 16777215, creditedMin := min (old.creditedMin + r.creditedMin) 16777215
          final := if final = true then true else old.final } }

/-- R130: the net of a record's period with tier cents and credit cents. -/
def netWith (r : Subscriber) (tier credit : Nat) : Int :=
  max (-99999999) (min ((tier : Int) - credit + r.eventCents - r.refundCents + r.adjCents) 99999999)

/-- R130, R131, R133: a record with its final statement, the remainders rounded half-up; a PREPAID record's credit cent is settled before its last cent of charge. -/
def withFinalStatement (r : Subscriber) (period : Nat) : Subscriber :=
  match r.purse with
  | .account owed ceiling =>
    let tier := (r.chargeAcc + r.tierCarry + 21600) / 43200
    let credit := (r.creditAcc + r.creditRem + 21600) / 43200
    stated { r with
      purse := .account (max (-99999999) (min (owed + netWith r tier credit) 99999999)) ceiling
      chargeAcc := 0, tierCarry := 0, creditAcc := 0, creditRem := 0 } period tier credit (netWith r tier credit) true
  | .prepaid balance =>
    let cent := if 21600 ≤ r.creditRem then 1 else 0
    let last := if 21600 ≤ r.chargeAcc ∧ 1 ≤ min (balance + cent) 99999999 then 1 else 0
    stated { r with
      purse := .prepaid (min (balance + cent) 99999999 - last), chargeAcc := 0, tierCarry := 0, creditAcc := 0, creditRem := 0 }
      period (r.drawn + last) (r.returned + cent) (netWith r (r.drawn + last) (r.returned + cent)) true

/-- R152: the price that Close Subscriber returns for an entry of the purchase list. -/
def dueBack (s : State) (id : Nat) : Nat :=
  match s.events.get? id with
  | none => 0
  | some e => match e.state, e.walk with
    | .scheduled, _ => e.price
    | .ended, some w => if w.refundDue then e.price else 0
    | _, _ => 0

/-- R18, R126, R131, R133, R152: Close Subscriber on any record that is not CLOSED: each entry of the purchase list in its order is settled by R152, an open episode by R126 with no change of
state, the record is CLOSED and has its final statement, new or merged into one that waits; each SCHEDULED or OPEN event's count falls with the entries that named it; a bound record makes its urgent
need; and nothing else is touched. That a record behind a close pass, whether or not the pass met it, takes the next period's number is the model's choice (log 38). -/
def Obligations.CloseSubscriberCloses : Prop :=
  ∀ (s : State) (body : List Byte) (i period : Nat) (r r1 r2 : Subscriber), s.listening → body.length = 4 → s.holds (u32 body 0) i r →
    r.state ≠ .closed → s.events.wf = true →
    period = (match s.billing.pass with
      | none => s.billing.period
      | some p => if p.close.isSome = true ∧ i < p.next then (if s.billing.period = 65535 then 1 else s.billing.period + 1) else s.billing.period) →
    r1 = { r.purchases.foldl (fun r id => givenBack r (dueBack s id)) r with purchases := [], state := .closed } →
    ((r.episode = none ∧ r2 = r1) ∨ ∃ e, r.episode = some e ∧
      r2 = { (if s.billing.threshold ≤ e.minutes then credited r1 e else r1) with episode := none }) →
    exec (.closeSubscriber body) s = .next (({ s.withSub i (withFinalStatement r2 period) with
      events := s.events.map fun (p : Nat × EventRec) =>
        if p.2.state = EventState.scheduled ∨ p.2.state = EventState.opened then (p.1, { p.2 with count := p.2.count - r.purchases.count p.1 }) else p }.needFor
      r.tapPort).replied 4 ⟨.ok, []⟩)

/-- R19, R23: Retire Subscriber on a CLOSED record with an empty statement slot frees its index, its account and its tap port. That the end walks
in flight forget the record is the model's own (log 39). -/
def Obligations.RetireSubscriberFrees : Prop :=
  ∀ (s : State) (body : List Byte) (i : Nat) (r : Subscriber), s.listening → body.length = 4 → s.holds (u32 body 0) i r →
    r.state = .closed → r.slot = none →
    ∃ t : State, exec (.retireSubscriber body) s = .next (t.replied 4 ⟨.ok, []⟩) ∧
      t.subs.get? i = none ∧ (∀ j, j ≠ i → t.subs.get? j = s.subs.get? j) ∧
      t.accounts.get? (u32 body 0) = none ∧ (∀ a, a ≠ u32 body 0 → t.accounts.get? a = s.accounts.get? a) ∧
      (∀ id, t.events.get? id = (s.events.get? id).map fun e =>
        { e with walk := e.walk.map fun w => { w with settled := w.settled.filter (· != i) } }) ∧ t.events.length = s.events.length ∧
      (r.tapPort = none → t = { s with subs := t.subs, accounts := t.accounts, events := t.events }) ∧
      (∀ p, r.tapPort = some p →
        t = { s with subs := t.subs, accounts := t.accounts, events := t.events
                     taps := s.taps.modify p.tap fun x => x.withBound p.port none }.need .urgent p.tap)

/-- R21, R22, R23: Bind, Move and Unbind write both halves of the binding together and make their urgent needs. That Move's need for the old tap is taken
before the need for the new one is the model's choice (log 24). -/
def Obligations.BindMoveUnbind : Prop :=
  (∀ (s : State) (body : List Byte) (i tap port : Nat) (r : Subscriber) (x : Tap), s.listening → body.length = 7 →
    tap = u16 body 4 → port = u8 body 6 → tap ≤ 511 → 1 ≤ port → port ≤ 4 → s.holds (u32 body 0) i r → s.taps.get? tap = some x →
    r.state ≠ .closed → x.boundTo port = none →
    (r.tapPort = none → exec (.bind body) s =
      .next (({ s.withSub i { r with tapPort := some ⟨tap, port⟩ } with
        taps := s.taps.modify tap fun x => x.withBound port (some i) }.need .urgent tap).replied 7 ⟨.ok, []⟩)) ∧
    (∀ (old : PortRef) (y : Tap), r.tapPort = some old → s.taps.get? old.tap = some y → x.origin = none → y.origin = none →
      ∃ u : State, u = { s.withSub i { r with tapPort := some ⟨tap, port⟩ } with
          taps := (s.taps.modify old.tap fun x => x.withBound old.port none).modify tap fun x => x.withBound port (some i) } ∧
        exec (.move body) s = .next ((if old.tap = tap then u.need .urgent tap
          else (u.need .urgent old.tap).need .urgent tap).replied 7 ⟨.ok, []⟩))) ∧
  (∀ (s : State) (body : List Byte) (i : Nat) (r : Subscriber) (p : PortRef), s.listening → body.length = 4 → s.holds (u32 body 0) i r →
    r.tapPort = some p → r.state = .new ∨ r.state = .closed →
    exec (.unbind body) s = .next (({ s.withSub i { r with tapPort := none } with
      taps := s.taps.modify p.tap fun x => x.withBound p.port none }.need .urgent p.tap).replied 4 ⟨.ok, []⟩))

/-- R7: a CLOSED record accepts no change of service or money: each of the twelve requests, its other fields in range, is answered BAD_STATE. The order
of tests puts Bind's and Move's NOT_FOUND of the tap, and Purchase's tests of the event, first. -/
def Obligations.ClosedRecordIsRefused : Prop :=
  ∀ (c : Instr) (body : List Byte) (n i : Nat) (m : Modes) (r : Subscriber) (s : State), s.listening → c.body? = some body →
    requestRow c = some (n, m) → body.length = n → s.holds (u32 body 0) i r → r.state = .closed →
    (c = .changeTiers body ∨ c = .activate body ∨ c = .suspend body ∨ c = .resume body ∨ c = .closeSubscriber body ∨
      ((c = .bind body ∨ c = .move body) ∧ u16 body 4 ≤ 511 ∧ 1 ≤ u8 body 6 ∧ u8 body 6 ≤ 4 ∧ (s.taps.get? (u16 body 4)).isSome) ∨
      (c = .setCeiling body ∧ u32 body 4 ≤ 99999999) ∨
      ((c = .topUp body ∨ c = .postPayment body) ∧ 1 ≤ u32 body 4 ∧ u32 body 4 ≤ 99999999) ∨
      (c = .postAdjustment body ∧ -99999999 ≤ i32 body 4 ∧ i32 body 4 ≤ 99999999) ∨
      (c = .purchase body ∧ u16 body 4 ≠ 0 ∧ (s.events.get? (u16 body 4)).isSome ∧ (u8 body 6 = 0 ∨ s.mode = .loading))) →
    exec c s = .next (s.replied n ⟨.badState, []⟩)

/-- R2, R3: a request that names one household by its account changes no other household's record. -/
def Obligations.RequestsTouchTheirOwnHousehold : Prop :=
  ∀ (c : Instr) (s t : State) (a j : Nat) (x : Subscriber), s.Indexed → household? c = some a → exec c s = .next t →
    s.subs.get? j = some x → x.account ≠ a → t.subs.get? j = some x

/-! ## Channel line-up and tiers (chapter 2) -/

/-- The definition that a body gives at an offset passes R26 and is stored as R26 stores it. -/
def wellDefined (body : List Byte) (d : Definition) : Prop :=
  ∃ (state : SlotState) (tier : Option Nat), slotStateOf (u8 body 1) = some state ∧ requiredTierOf (u8 body 10) = some tier ∧
    ¬((body.getD 11 0#8).getLsbD 0 = true ∧ (body.getD 11 0#8).getLsbD 1 = true) ∧
    d = match state with
      | .carried => ⟨.carried, (body.drop 2).take 8, tier, (body.getD 11 0#8).getLsbD 0, (body.getD 11 0#8).getLsbD 1⟩
      | .unused => ⟨.unused, (body.drop 2).take 8, none, false, false⟩

/-- R27: no event on the slot is SCHEDULED or OPEN. -/
def noLiveEvent (s : State) (slot : Nat) : Prop :=
  ∀ id e, (id, e) ∈ s.events → e.slot = slot → e.state ≠ .scheduled ∧ e.state ≠ .opened

/-- R26, R27, R28, R29, R30: defining a slot in LOADING, staging a change and withdrawing it. R34, R39, R40, R42, R180: Read Channel, Define Tier,
Stage Tier Rate and Read Tier.
Places and widths of response bytes that the manual leaves open, among them the zero minute sent with last stage result NONE, are the model's choice (log 9,
log 40). -/
def Obligations.LineUpRequests : Prop :=
  ((∀ (s : State) (body : List Byte) (d : Definition), s.listening → s.mode = .loading → body.length = 12 → u8 body 0 ≤ 95 →
    wellDefined body d → ((d.state = .carried ∧ d.pay = true) ∨ noLiveEvent s (u8 body 0)) →
    exec (.defineChannel body) s =
      .next (({ s with slots := s.slots.modify (u8 body 0) fun x => { x with current := d } }.requestSweep .all).replied 12 ⟨.ok, []⟩)) ∧
  (∀ (s : State) (body : List Byte) (d : Definition) (x : Slot), s.listening → body.length = 16 → u8 body 0 ≤ 95 →
    s.slots[u8 body 0]? = some x → wellDefined body d → ((d.state = .carried ∧ d.pay = true) ∨ noLiveEvent s (u8 body 0)) →
    exec (.stageChannelChange body) s =
      .next ({ s with slots := s.slots.modify (u8 body 0) fun x => { x with staged := some ⟨d, u32 body 12⟩ } }.replied 16
        ⟨.ok, w8 (if x.staged.isSome then 1 else 0) ++ w8 (if u32 body 12 ≤ s.clock.minute then 1 else 0)⟩)) ∧
  (∀ (s : State) (body : List Byte) (x : Slot), s.listening → body.length = 1 → u8 body 0 ≤ 95 → s.slots[u8 body 0]? = some x →
    (x.staged.isSome → exec (.withdrawStagedChange body) s =
      .next ({ s with slots := s.slots.modify (u8 body 0) fun x => { x with staged := none } }.replied 1 ⟨.ok, []⟩)) ∧
    (x.staged = none → exec (.withdrawStagedChange body) s = .next (s.replied 1 ⟨.notFound, []⟩)))) ∧
  ((∀ (s : State) (body : List Byte) (x : Slot), s.listening → body.length = 1 → u8 body 0 ≤ 95 → s.slots[u8 body 0]? = some x →
    exec (.readChannel body) s = .next (s.replied 1 ⟨.ok, wdefinition x.current
      ++ (match x.staged with | none => List.replicate 16 0#8 | some g => w8 1 ++ wdefinition g.defn ++ w32 g.effective)
      ++ w8 (if x.dark then 1 else 0)
      ++ (match x.lastStage with | .none => List.replicate 5 0#8 | .applied m => w8 1 ++ w32 m | .discarded m => w8 2 ++ w32 m)⟩)) ∧
  (∀ (s : State) (body : List Byte), s.listening → s.mode = .loading → body.length = 11 → u8 body 0 ≤ 15 →
    exec (.defineTier body) s = .next ({ s with tiers := s.tiers.modify (u8 body 0) fun t =>
      { t with rate := u16 body 1, label := (body.drop 3).take 8 } }.replied 11 ⟨.ok, []⟩)) ∧
  (∀ (s : State) (body : List Byte) (x : Tier), s.listening → s.mode = .live → body.length = 3 → u8 body 0 ≤ 15 →
    s.tiers[u8 body 0]? = some x →
    exec (.stageTierRate body) s = .next ({ s with tiers := s.tiers.modify (u8 body 0) fun t =>
      { t with staged := some (u16 body 1) } }.replied 3 ⟨.ok, w8 (if x.staged.isSome then 1 else 0)⟩)) ∧
  (∀ (s : State) (body : List Byte) (x : Tier), s.listening → body.length = 1 → u8 body 0 ≤ 15 → s.tiers[u8 body 0]? = some x →
    exec (.readTier body) s = .next (s.replied 1 ⟨.ok, w16 x.rate
      ++ (match x.staged with | none => [0#8, 0#8, 0#8] | some rate => w8 1 ++ w16 rate) ++ x.label⟩)))

/-- R38: a hard reset, and Clear Store in either mode, put every tier at rate 0, no staged rate and a label of eight spaces; and every step keeps it so that no
tier holds a staged rate in LOADING. -/
def Obligations.TiersAreResetAndLoadingStagesNone : Prop :=
  (∀ (s : State) (b : Bool), ∃ t : State, exec (.hardReset b) s = .next t ∧ t.tiers.length = 16 ∧
    ∀ x ∈ t.tiers, x = (⟨0, none, List.replicate 8 0x20#8⟩ : Tier)) ∧
  (∀ s : State, s.listening → ∃ t : State, exec (.clearStore []) s = .next (t.replied 0 ⟨.ok, []⟩) ∧ t.mode = .loading ∧
    t.tiers = s.tiers.map (fun _ => ⟨0, none, List.replicate 8 0x20#8⟩)) ∧
  (∀ s t : State, (s.mode = .loading → ∀ x ∈ s.tiers, x.staged = none) → step s = .next t →
    t.mode = .loading → ∀ x ∈ t.tiers, x.staged = none) ∧
  (State.reset.mode = .loading ∧ ∀ x ∈ State.reset.tiers, x.staged = none)

/-- R31, R32, R33: the Line-Up Table takes a boundary: slot by slot, a staged change that is due is applied or discarded by the live-event test, in
which an OPEN event that closes at the boundary's minute does not count; each applied change requests a sweep of scope ALL, the first of which starts one where none
is in flight (R62: SweepRequestStartsOrJoins says what a request does). -/
def Obligations.LineUpTakesABoundary : Prop :=
  ∀ (s : State) (n : Nat) (later : List Nat), s.announced.lineUp = n :: later → s.slots.length = 96 →
    ∃ t : State, exec .lineupTakesBoundary s = .next t ∧
      t.announced = { s.announced with lineUp := later } ∧ t.slots.length = 96 ∧
      (∀ (i : Nat) (x : Slot), s.slots[i]? = some x →
        (x.staged = none → t.slots[i]? = some x) ∧
        (∀ g, x.staged = some g → n < g.effective → t.slots[i]? = some x) ∧
        (∀ g, x.staged = some g → g.effective ≤ n →
          ((g.defn.state = .carried ∧ g.defn.pay = true) ∨
              ∀ id e, (id, e) ∈ s.events → e.slot = i → e.state ≠ .scheduled ∧ (e.state = .opened → e.closeMinute = n)) →
            t.slots[i]? = some { x with current := g.defn, staged := none, lastStage := .applied n }) ∧
        (∀ g, x.staged = some g → g.effective ≤ n → ¬(g.defn.state = .carried ∧ g.defn.pay = true) →
          (∃ id e, (id, e) ∈ s.events ∧ e.slot = i ∧ (e.state = .scheduled ∨ (e.state = .opened ∧ e.closeMinute ≠ n))) →
            t.slots[i]? = some { x with staged := none, lastStage := .discarded n })) ∧
      ((∀ (i : Nat) (x : Slot) (g : Staged), s.slots[i]? = some x → x.staged = some g → n < g.effective) →
        t = { s with announced := { s.announced with lineUp := later } }) ∧
      (∀ applied : Nat, applied = ((List.range 96).filter fun i => match s.slots[i]?, t.slots[i]? with
            | some x, some y => x.staged.isSome && y.staged.isNone && decide (y.lastStage = .applied n)
            | _, _ => false).length →
        ∀ u : State, u = (fun u : State => u.requestSweep .all)^[applied] s →
          t.taps = u.taps ∧ t.sweep = u.sweep ∧ t.scopes = u.scopes) ∧
      (s.sweep = none → s.scopes = none → t.taps = s.taps) ∧
      t = { s with announced := t.announced, slots := t.slots, taps := t.taps, sweep := t.sweep, scopes := t.scopes }

/-! ## Taps, entitlement and the switch queues (chapter 3) -/

/-- R47: the desired setting of a port: off without a subscriber or for a NEW, SUSPENDED or CLOSED one; for a LAPSED or ACTIVE one, on, passing exactly the
slots that the rule's conditions pass. -/
def Obligations.DesiredSetting : Prop :=
  ∀ (s : State) (p : TapPort), s.slots.length = 96 →
    (p.subscriber = none → s.desired p = .off) ∧
    (∀ i r, p.subscriber = some i → s.subs.get? i = some r →
      (r.state = .new ∨ r.state = .suspended ∨ r.state = .closed → s.desired p = .off) ∧
      (r.state = .lapsed → ∃ pass, s.desired p = .on pass ∧ ∀ (n : Nat) (x : Slot), s.slots[n]? = some x →
        (pass.getLsbD n = true ↔ x.current.state = .carried ∧ x.current.lifeline = true)) ∧
      (r.state = .active → ∃ pass, s.desired p = .on pass ∧ ∀ (n : Nat) (x : Slot), s.slots[n]? = some x →
        (pass.getLsbD n = true ↔ x.current.state = .carried ∧
          ((x.current.tier = none ∧ x.current.pay = false) ∨
           (∃ t, x.current.tier = some t ∧ r.tiers.getLsbD t = true) ∨
           (x.current.pay = true ∧ ∃ id e, id ∈ r.purchases ∧ s.events.get? id = some e ∧ e.slot = n ∧ e.state = .opened) ∨
           x.current.lifeline = true))))

/-- R181: a port setting as it is sent: 0x00 and twelve zero bytes, or 0x01 and the pass set, slot `8 k + j` in byte `k` at bit `7 - j`. -/
def settingOctets : Setting → List Byte
  | .off => List.replicate 13 0#8
  | .on pass => 1#8 :: (List.range 12).map fun k =>
      BitVec.ofNat 8 ((List.range 8).map fun j => if pass.getLsbD (8 * k + j) then 2 ^ (7 - j) else 0).sum

/-- R65: a set of scopes as it is sent: its kind, the number of its subtrees and eight places for their elements (log 9, log 34). -/
def scopeOctets : Option Scope → List Byte
  | none => List.replicate 10 0#8
  | some .all => 1#8 :: List.replicate 9 0#8
  | some (.subtrees es) => 2#8 :: BitVec.ofNat 8 es.length :: (es.map fun e => BitVec.ofNat 8 e) ++ List.replicate (8 - es.length) 0#8

/-- R44, R45, R61: enrolling a tap at the lowest free index, retiring an unbound tap that is not in flight, and Resend Tap. R46, R65: Read Tap and Read
Switching change nothing; Read Tap's body begins with the address, feeding element, its leg, the tap state, the countdown, the lid and the queue
membership, then gives each port's account, confirmed setting and desired setting (R181's pass set), and Read Switching's begins with the six counts, then gives
the sweep in flight with its next index and the pending scope set.
Places and widths of response bytes that the manual leaves open, the presence byte of the sweep in flight, and the order in which the elements of a scope set are
listed, are the model's choice (log 9, log 48, log 34). -/
def Obligations.TapRequests : Prop :=
  ((∀ (s : State) (body : List Byte) (e : Element), s.listening → body.length = 3 → u16 body 0 ≠ 0 → u16 body 0 ≠ 65535 → u8 body 2 ≤ 127 →
    (∀ i t, (i, t) ∈ s.taps → t.address ≠ u16 body 0) → (∀ i x, (i, x) ∈ s.elements → x.address ≠ u16 body 0) →
    s.taps.length < 512 → s.taps.wf = true → s.elements.get? (u8 body 2) = some e →
    ∃ (i : Nat) (taps : Table Tap), exec (.enrolTap body) s = .next ({ s with taps := taps }.replied 3 ⟨.ok, w16 i⟩) ∧
      s.taps.get? i = none ∧ (∀ j, j < i → (s.taps.get? j).isSome) ∧ (∀ j, j ≠ i → taps.get? j = s.taps.get? j) ∧
      taps.get? i = some ⟨u16 body 0, u8 body 2, List.replicate 4 ⟨none, none⟩, .inService, none, .closed, none, false⟩) ∧
  (∀ (s : State) (body : List Byte) (t : Tap), s.listening → body.length = 2 → u16 body 0 ≤ 511 → s.taps.get? (u16 body 0) = some t →
    (∀ p ∈ t.ports, p.subscriber = none) → t.origin = none →
    exec (.retireTap body) s = .next ({ (if t.state = TapState.silent then s.endAlarm .tapSilent (u16 body 0) else s) with
      taps := s.taps.erase (u16 body 0)
      urgent := s.urgent.filter (· != u16 body 0), bulk := s.bulk.filter (· != u16 body 0) }.replied 2 ⟨.ok, []⟩)) ∧
  (∀ (s : State) (body : List Byte) (t : Tap), s.listening → body.length = 2 → u16 body 0 ≤ 511 → s.taps.get? (u16 body 0) = some t →
    exec (.resendTap body) s = .next (({ s with taps := s.taps.modify (u16 body 0) fun (t : Tap) =>
      { t with countdown := none, ports := t.ports.map fun (p : TapPort) => { p with confirmed := none } } }.need .urgent (u16 body 0)).replied 2
      ⟨.ok, []⟩))) ∧
  ((∀ (s : State) (body : List Byte) (t : Tap) (e : Element), s.listening → body.length = 2 → u16 body 0 ≤ 511 →
    s.taps.get? (u16 body 0) = some t → s.elements.get? t.feeding = some e →
    exec (.readTap body) s = .next (s.replied 2 ⟨.ok, w16 t.address ++ w8 t.feeding ++ w8 e.leg
      ++ w8 (if t.state = .silent then 1 else 0)
      ++ (match t.countdown with | none => [0#8, 0#8] | some n => w8 1 ++ w8 n)
      ++ w8 (if t.lid = .opened then 1 else 0)
      ++ w8 (if u16 body 0 ∈ s.urgent then 1 else if u16 body 0 ∈ s.bulk then 2 else 0)
      ++ w8 (if (u16 body 0 ∈ s.urgent ∨ u16 body 0 ∈ s.bulk) ∧ ¬(e.state = .up ∨ e.state = .suspect) then 1 else 0)
      ++ w8 (if t.origin.isSome then 1 else 0) ++ w8 (if t.dirty then 1 else 0)
      ++ t.ports.flatMap fun (p : TapPort) =>
        (match p.subscriber.bind fun i => s.subs.get? i with | none => List.replicate 5 0#8 | some r => w8 1 ++ w32 r.account)
        ++ (match p.confirmed with | none => List.replicate 14 0#8 | some x => w8 1 ++ settingOctets x)
        ++ settingOctets (s.desired p)⟩)) ∧
  (∀ s : State, s.listening →
    exec (.readSwitching []) s = .next (s.replied 0 ⟨.ok, w16 s.urgent.length ++ w16 s.bulk.length
      ++ w16 (s.urgent.filter s.held).length ++ w16 (s.bulk.filter s.held).length
      ++ w16 (s.taps.filter fun p => p.2.origin.isSome).length ++ w16 (s.taps.filter fun p => p.2.state = TapState.silent).length
      ++ (match s.sweep with
          | none => List.replicate 13 0#8
          | some w => w8 1 ++ scopeOctets (some w.scope) ++ w16 w.next)
      ++ scopeOctets s.scopes⟩)))

/-- R59: the Tap Table takes a boundary: every countdown that runs is lowered by one (down to zero, where it waits, log 22); then its expiry removes it and makes
a bulk need. -/
def Obligations.CountdownsRunAndExpire : Prop :=
  (∀ (s : State) (n : Nat) (later : List Nat), s.announced.taps = n :: later →
    ∃ new : Table Tap, exec .tapTableTakesBoundary s =
        .next { s with announced := ⟨s.announced.lineUp, s.announced.events, later⟩, taps := new } ∧
      (∀ i, s.taps.get? i = none → new.get? i = none) ∧
      ∀ (i : Nat) (t : Tap), s.taps.get? i = some t →
        (∀ k, t.countdown = some k → i ∉ s.urgent → i ∉ s.bulk → t.origin = none →
          new.get? i = some { t with countdown := some (k - 1) }) ∧
        (t.countdown = none ∨ i ∈ s.urgent ∨ i ∈ s.bulk ∨ t.origin.isSome → new.get? i = some t)) ∧
  (∀ (s : State) (i : Nat) (t : Tap), s.taps.get? i = some t →
    (t.countdown = some 0 → exec (.silentCountdownExpiry i) s =
      .next ({ s with taps := s.taps.modify i fun t => { t with countdown := none } }.need .bulk i)) ∧
    (t.countdown ≠ some 0 → exec (.silentCountdownExpiry i) s = .next s))

/-- R63, R64: a sweep's visit to its next index: what is passed over, what a clearing scope clears, when a bulk need is made, and how the sweep goes on or
ends. -/
def Obligations.SweepVisitsItsNextIndex : Prop :=
  ∀ (s : State) (w : Sweep), s.sweep = some w → w.next ≤ 511 → s.taps.wf = true →
    ∃ u : State,
      exec .sweepVisit s = .next { u with
        sweep := if w.next < 511 then some ⟨w.scope, w.next + 1⟩ else s.scopes.map fun scope => ⟨scope, 0⟩
        scopes := if w.next < 511 then s.scopes else none } ∧
      (s.taps.get? w.next = none → u = s) ∧
      ∀ t, s.taps.get? w.next = some t →
        (((∃ es, w.scope = .subtrees es ∧ ∀ e ∈ es, s.under e t.feeding = false) ∨ (∀ p ∈ t.ports, p.subscriber = none) ∨
          t.countdown.isSome) → u = s) ∧
        (∀ cleared : Tap, (w.scope = .all ∧ cleared = t ∨ (∃ es, w.scope = .subtrees es ∧ ∃ e ∈ es, s.under e t.feeding = true) ∧
            cleared = { t with ports := t.ports.map fun p => { p with confirmed := none } }) →
          (∃ p ∈ t.ports, p.subscriber.isSome) → t.countdown = none →
          ((∀ p ∈ cleared.ports, p.confirmed = some (s.desired p)) → u = { s with taps := s.taps.modify w.next fun _ => cleared }) ∧
          ((∃ p ∈ cleared.ports, p.confirmed ≠ some (s.desired p)) →
            u = { s with taps := s.taps.modify w.next fun _ => cleared }.need .bulk w.next))

/-! ## The plant link (chapter 4) -/

/-- R84, R85, R86: Set Link Parameters replaces the five parameters, a new bit rate taking effect at once on the legs without a transaction and restarting their
return-fault measurement; Read Leg reports a leg and clears its counters when the clear mark is set. That a rate equal to the old one restarts no measurement
(log 43), places and widths of response bytes that the manual leaves open, the presence bytes of a fault's stamp and of the poll cycle timer, and the rounding of the
seconds left, are the model's choice (log 9, log 41, log 48, log 20). -/
def Obligations.LinkParametersAndReadLeg : Prop :=
  (∀ (s : State) (body : List Byte) (rate : Rate) (timeout : Nat), s.listening → body.length = 6 → rateOf (u8 body 0) = some rate →
    timeout = u16 body 1 → 20 ≤ timeout → timeout ≤ 2000 → (rate = .r9600 → 64 ≤ timeout) → (rate = .r19200 → 32 ≤ timeout) →
    u8 body 3 ≤ 7 → 5 ≤ u8 body 4 → 1 ≤ u8 body 5 →
    exec (.setLinkParameters body) s = .next ({ s with
      link := ⟨rate, timeout, u8 body 3, u8 body 4, u8 body 5⟩
      legs := s.legs.map fun (l : Leg) => { l with
        rate := if l.txn.isNone then rate else l.rate
        measured := if l.txn.isNone ∧ l.rate ≠ rate then 0 else l.measured } }.replied 6 ⟨.ok, []⟩)) ∧
  (∀ (s : State) (body : List Byte) (l : Leg), s.listening → body.length = 2 → u8 body 0 ≤ 3 → s.legs[u8 body 0]? = some l →
    exec (.readLeg body) s = .next ({ s with
        legs := (if u8 body 1 = 0 then s.legs else s.legs.set (u8 body 0) { l with counters := ⟨0, 0, 0, 0, 0, 0, 0⟩ }) }.replied 2 ⟨.ok,
      w8 (match l.activity with | .idle => 0 | .transmitting => 1 | .awaiting => 2)
      ++ (match l.txn with
          | none => List.replicate 9 0#8
          | some ⟨.tap i tries q _, address⟩ =>
            w8 1 ++ w8 0 ++ w16 i ++ w8 tries ++ w8 (match q with | .urgent => 0 | .bulk => 1) ++ w16 address ++ w8 l.tag
          | some ⟨.poll e priority _, address⟩ => w8 1 ++ w8 1 ++ w8 e ++ w8 (if priority then 1 else 0) ++ w16 address ++ w8 l.tag)
      ++ w8 l.tag ++ w8 (match l.rate with | .r9600 => 0 | .r19200 => 1 | .r38400 => 2)
      ++ (match l.fault with | none => List.replicate 7 0#8 | some at_ => w8 1 ++ w8 1 ++ w32 at_.minute ++ w8 at_.second)
      ++ (match l.pollTimer with | none => [0#8, 0#8] | some ms => w8 1 ++ w8 ((ms + 999) / 1000))
      ++ w8 (s.elements.filter fun (p : Nat × Element) => p.2.leg = u8 body 0 && p.2.pollDue).length
      ++ w8 (s.elements.filter fun (p : Nat × Element) => p.2.leg = u8 body 0 && p.2.priority).length
      ++ w8 (match s.link.rate with | .r9600 => 0 | .r19200 => 1 | .r38400 => 2) ++ w16 s.link.replyTimeout ++ w8 s.link.retryLimit
      ++ w8 s.link.pollCycle ++ w8 s.link.silentInterval
      ++ w16 l.counters.transmitted ++ w16 l.counters.valid ++ w16 l.counters.expired ++ w16 l.counters.checkFailures
      ++ w16 l.counters.discarded ++ w16 l.counters.abandoned ++ w16 l.counters.faults⟩))

/-- R67, R68, R71: a leg after the start of a transmission. -/
def sent (s : State) (l : Leg) (work : Work) (address : Nat) (kind : Byte) (body : List Byte) : Leg :=
  { l with
    activity := .transmitting, txn := some ⟨work, address⟩, tag := (l.tag + 1) % 256, tryTimer := s.link.replyTimeout, txen := true, rx := []
    frame := legFrame address kind ((l.tag + 1) % 256) body
    counters := { l.counters with transmitted := if l.counters.transmitted < 65535 then l.counters.transmitted + 1 else 65535 } }

/-- R50: an entry of a switch queue is eligible for a leg. -/
def offered (s : State) (leg i : Nat) : Prop :=
  ∃ t e, s.taps.get? i = some t ∧ s.elements.get? t.feeding = some e ∧ e.leg = leg ∧ (e.state = .up ∨ e.state = .suspect)

/-- R50, R52, R72, R76, R77: an IDLE leg in LIVE and NORMAL takes the lowest priority poll, else the first eligible urgent tap, else the lowest routine poll,
else the first eligible bulk tap, else nothing; a tap is built from the records of the moment, leaves its queue and is in flight. A leg that is not
IDLE, in LOADING or in FAULT takes nothing.
That a leg whose TXEN is still high from a cut-short frame takes work is the model's choice (log 28). -/
def Obligations.LegTakesWorkInOrder : Prop :=
  ∀ (s : State) (leg : Nat) (l : Leg), s.legs[leg]? = some l → s.elements.wf = true → s.taps.wf = true →
    (s.mode = .loading ∨ l.activity ≠ .idle ∨ l.fault.isSome → exec (.legTakesWork leg) s = .next s) ∧
    (s.mode = .live → l.activity = .idle → l.fault = none →
      (∀ e x, s.elements.get? e = some x → x.leg = leg → x.priority = true →
        (∀ e' y, e' < e → s.elements.get? e' = some y → y.leg = leg → y.priority = false) →
        exec (.legTakesWork leg) s =
          .next { s with legs := s.legs.set leg (sent s l (.poll e true false) x.address 0x02#8 []) }) ∧
      ((∀ e x, s.elements.get? e = some x → x.leg = leg → x.priority = false) →
        (∀ ahead behind i t, s.urgent = ahead ++ i :: behind → (∀ j ∈ ahead, ¬offered s leg j) → offered s leg i →
          s.taps.get? i = some t →
          exec (.legTakesWork leg) s = .next { s with
            urgent := s.urgent.filter (· != i), bulk := s.bulk.filter (· != i)
            taps := s.taps.modify i fun t => { t with origin := some .urgent, dirty := false }
            legs := s.legs.set leg (sent s l (.tap i 1 .urgent (t.ports.map s.desired)) t.address 0x01#8
              ((t.ports.map s.desired).flatMap settingBytes)) }) ∧
        ((∀ i ∈ s.urgent, ¬offered s leg i) →
          (∀ e x, s.elements.get? e = some x → x.leg = leg → x.pollDue = true →
            (∀ e' y, e' < e → s.elements.get? e' = some y → y.leg = leg → y.pollDue = false) →
            exec (.legTakesWork leg) s = .next { s with
              elements := s.elements.modify e fun x => { x with pollDue := false }
              legs := s.legs.set leg (sent s l (.poll e false false) x.address 0x02#8 []) }) ∧
          ((∀ e x, s.elements.get? e = some x → x.leg = leg → x.pollDue = false) →
            (∀ ahead behind i t, s.bulk = ahead ++ i :: behind → (∀ j ∈ ahead, ¬offered s leg j) → offered s leg i →
              s.taps.get? i = some t →
              exec (.legTakesWork leg) s = .next { s with
                urgent := s.urgent.filter (· != i), bulk := s.bulk.filter (· != i)
                taps := s.taps.modify i fun t => { t with origin := some .bulk, dirty := false }
                legs := s.legs.set leg (sent s l (.tap i 1 .bulk (t.ports.map s.desired)) t.address 0x01#8
                  ((t.ports.map s.desired).flatMap settingBytes)) }) ∧
            ((∀ i ∈ s.bulk, ¬offered s leg i) → exec (.legTakesWork leg) s = .next s)))))

/-- R66, R67: TX is at mark with TXEN low; from the raising of TXEN it is at mark for one character time, then carries each character of the frame in ten bit
times, a start bit at space, the data bits, the least significant first, and a stop bit at mark, and is at mark after the last. R67, R74, R83: the end of a
transmission, of a frame cut short by Clear Store, of which nothing more is sent, and of a poll cycle, each on the leg it names and no other. A poll cycle that has
not run out does not end. That the command gives the place of the cut is the model's choice (log 47). -/
def Obligations.FramesEndAndCyclesStart : Prop :=
  ∀ (s : State) (leg : Nat) (l : Leg), s.legs[leg]? = some l →
    (l.activity = .transmitting →
      exec (.frameTransmitted leg) s = .next { s with legs := s.legs.set leg { l with activity := .awaiting, txen := false } }) ∧
    (∀ n, l.activity = .idle → l.txen = true →
      exec (.frameCutShort ⟨leg, n⟩) s = .next { s with legs := s.legs.set leg { l with txen := false, frame := l.frame.take n } }) ∧
    (∀ n, l.activity ≠ .idle ∨ l.txen = false → exec (.frameCutShort ⟨leg, n⟩) s = .next s) ∧
    (l.txen = false → ∀ n, l.tx n = .high) ∧
    (l.txen = true →
      (∀ n, n < 10 ∨ 10 + 10 * l.frame.length ≤ n → l.tx n = .high) ∧
      (∀ k c, l.frame[k]? = some c → l.tx (10 + 10 * k) = .low ∧ l.tx (10 + 10 * k + 9) = .high ∧
        ∀ j, j < 8 → l.tx (10 + 10 * k + 1 + j) = if c.getLsbD j then .high else .low)) ∧
    (l.pollTimer ≠ some 0 → exec (.pollCycleExpiry leg) s = .next s) ∧
    (l.pollTimer = some 0 → ∃ elements : Table Element,
      exec (.pollCycleExpiry leg) s = .next { s with
        elements := elements, legs := s.legs.set leg { l with pollTimer := some (s.link.pollCycle * 1000) } } ∧
      ∀ e, elements.get? e = (s.elements.get? e).map fun x =>
        if x.leg = leg ∧ (x.state = .up ∨ x.state = .suspect ∨ x.state = .down) then { x with pollDue := true } else x)

/-- R69, R181: characters that make a frame that fails the frame check, of which the last is the one at which R69 stops: a kind that is neither TAP_SET nor POLL, a
length that is not 2, or a received check that differs from the computed one. -/
def failsCheck (chars : List Byte) : Prop :=
  ∃ a1 a0 kind : Byte,
    (kind ≠ 0x01#8 ∧ kind ≠ 0x02#8 ∧ chars = [0x96#8, a1, a0, kind]) ∨
    ((kind = 0x01#8 ∨ kind = 0x02#8) ∧ ∃ tag len : Byte,
      (len ≠ 2#8 ∧ chars = [0x96#8, a1, a0, kind, tag, len]) ∨
      (len = 2#8 ∧ ∃ b0 b1 c1 c0 : Byte, c1 ++ c0 ≠ crc16 [a1, a0, kind, tag, len, b0, b1] ∧
        chars = [0x96#8, a1, a0, kind, tag, len, b0, b1, c1, c0]))

/-- R69, R70, R181: reception on a leg that is AWAITING with its try timer running: characters before a sync character are dropped, a frame partly assembled is held for
the characters still to come, and after each frame that leaves the try waiting the receiver hunts on. A frame whose address or tag differs from those awaited is
discarded, counted, and the try goes on. A frame that fails the frame check, or matches with the wrong kind, ends the try as its timer running out would, but is counted as a
frame-check failure. On a leg that is not AWAITING or has no transaction every character is discarded; so it is where the timer shows 0 (the model's choice at that
moment, log 16). The frame check of the nine characters 123456789 is 0x29B1. That characters come without their times is the model's choice (log 17). -/
def Obligations.ReplyFramesAreRecovered : Prop :=
  (∀ (s t : State) (leg : Nat) (chars more : List Byte), exec (.replyFrameReceived leg chars) s = .next t →
    exec (.replyFrameReceived leg (chars ++ more)) s = exec (.replyFrameReceived leg more) t) ∧
  (∀ (s : State) (leg : Nat) (l : Leg) (chars : List Byte), s.legs[leg]? = some l →
    l.activity ≠ .awaiting ∨ l.txn = none ∨ l.tryTimer = 0 → exec (.replyFrameReceived leg chars) s = .next s) ∧
  (∀ (s : State) (leg : Nat) (l : Leg) (w : Transaction), s.legs[leg]? = some l → l.activity = .awaiting → l.tryTimer ≠ 0 →
    l.txn = some w → l.rx = [] →
    (∀ noise : List Byte, 0x96#8 ∉ noise → exec (.replyFrameReceived leg noise) s = .next s) ∧
    (∀ (address tag n : Nat) (kind b0 b1 : Byte), address ≤ 65535 → tag ≤ 255 → kind = 0x01#8 ∨ kind = 0x02#8 → 0 < n → n < 10 →
      exec (.replyFrameReceived leg ((legFrame address kind tag [b0, b1]).take n)) s =
        .next { s with legs := s.legs.set leg { l with rx := (legFrame address kind tag [b0, b1]).take n } }) ∧
    (∀ (address tag : Nat) (kind b0 b1 : Byte), address ≤ 65535 → tag ≤ 255 → kind = 0x01#8 ∨ kind = 0x02#8 →
      address ≠ w.address ∨ tag ≠ l.tag →
      exec (.replyFrameReceived leg (legFrame address kind tag [b0, b1])) s = .next { s with legs := s.legs.set leg { l with counters :=
        { l.counters with discarded := if l.counters.discarded < 65535 then l.counters.discarded + 1 else 65535 } } }) ∧
    (∀ chars : List Byte,
      (failsCheck chars ∨ ∃ kind b0 b1 : Byte, chars = legFrame w.address kind l.tag [b0, b1] ∧ w.address ≤ 65535 ∧ l.tag ≤ 255 ∧
        match w.work with | .tap _ _ _ _ => kind = 0x02#8 | .poll _ _ _ => kind = 0x01#8) →
      ∃ t : State, exec (.tryTimerExpiry leg) { s with legs := s.legs.set leg { l with tryTimer := 0 } } = .next t ∧
        exec (.replyFrameReceived leg chars) s = .next { t with legs := t.legs.modify leg fun l' => { l' with counters := { l'.counters with
          expired := l.counters.expired
          checkFailures := if l.counters.checkFailures < 65535 then l.counters.checkFailures + 1 else 65535 } } })) ∧
  crc16 [0x31#8, 0x32#8, 0x33#8, 0x34#8, 0x35#8, 0x36#8, 0x37#8, 0x38#8, 0x39#8] = 0x29B1#16

/-- R76, R77, R80: a leg after its transaction has ended, with no frame partly assembled (R69) and its bit rate brought up to the one in force, which restarts the
return-fault measurement where it is a new one (R85). -/
def freed (s : State) (l : Leg) : Leg :=
  { l with
    activity := .idle, txn := none, tryTimer := 0, txen := false, rx := [], rate := s.link.rate
    measured := if l.rate = s.link.rate then l.measured else 0 }

/-- R53, R54, R70, R181: a valid reply to a tap's command, received while AWAITING with the try timer running: the confirmed settings, the tap state, the lid, the
alarms, and where the tap joins. -/
def Obligations.TapReplyConfirmsTheBuiltSettings : Prop :=
  ∀ (s : State) (leg i tries address : Nat) (l : Leg) (q : QueueKind) (built : List Setting) (t t' : Tap) (chars : List Byte) (a b : Byte),
    s.legs[leg]? = some l → l.activity = .awaiting → l.tryTimer ≠ 0 → l.txn = some ⟨.tap i tries q built, address⟩ →
    l.rx = [] → address ≤ 65535 → l.tag ≤ 255 → chars = legFrame address 0x01#8 l.tag [a, b] → s.taps.wf = true → s.taps.get? i = some t → t.ports.length = 4 → built.length = 4 →
    t' = { t with
      ports := t.ports.zipIdx.map fun p => { p.1 with confirmed := if a.getLsbD p.2 then built[p.2]? else none }
      state := .inService, countdown := none, lid := if b = 0#8 then .closed else .opened, origin := none, dirty := false } →
    ∃ u : State, exec (.replyFrameReceived leg chars) s = .next u ∧
      u.taps = s.taps.modify i (fun _ => t') ∧
      u.legs = s.legs.set leg (freed s { l with counters := { l.counters with
        valid := if l.counters.valid < 65535 then l.counters.valid + 1 else 65535 } }) ∧
      u.urgent = (if t.dirty = true ∧ q = .urgent then s.urgent ++ [i] else s.urgent) ∧
      u.bulk = (if (t.dirty = true ∧ q = .bulk) ∨ (t.dirty = false ∧ ∃ n, n < 4 ∧ a.getLsbD n = false) then s.bulk ++ [i] else s.bulk) ∧
      u.alarms = (let ended := if t.state = .silent then s.endAlarm .tapSilent i else s
        if t.lid = .closed ∧ b ≠ 0#8 then ended.raiseOccurrence .tapTamper i else ended).alarms ∧
      u = { s with taps := u.taps, legs := u.legs, urgent := u.urgent, bulk := u.bulk, alarms := u.alarms }

/-- R55, R56, R57, R71: a tap's try whose timer runs out: returned as held, sent again with a fresh frame and tag, or SILENT. A try whose timer has not run out does
not end. That a try may time out while it is still TRANSMITTING is the model's choice (log 15). -/
def Obligations.TapTryTimesOut : Prop :=
  ∀ (s : State) (leg i tries address : Nat) (l : Leg) (q : QueueKind) (built : List Setting) (t : Tap) (e : Element),
    s.legs[leg]? = some l → l.txn = some ⟨.tap i tries q built, address⟩ → s.taps.wf = true → s.taps.get? i = some t →
    s.elements.get? t.feeding = some e →
    (l.tryTimer ≠ 0 → exec (.tryTimerExpiry leg) s = .next s) ∧
    (l.tryTimer = 0 → ∃ l' : Leg, l' = { l with counters := { l.counters with
        expired := if l.counters.expired < 65535 then l.counters.expired + 1 else 65535 } } ∧
      ((e.state = .down ∨ e.state = .shadowed ∨ e.state = .verify) →
        exec (.tryTimerExpiry leg) s = .next { s with
          taps := s.taps.modify i fun _ => { t with origin := none, dirty := false }
          urgent := if q = .urgent then i :: s.urgent else s.urgent
          bulk := if q = .bulk then i :: s.bulk else s.bulk
          legs := s.legs.set leg (freed s l') }) ∧
      (e.state = .up ∨ e.state = .suspect → tries ≤ s.link.retryLimit →
        exec (.tryTimerExpiry leg) s = .next { s with
          taps := s.taps.modify i fun _ => { t with dirty := false }
          legs := s.legs.set leg (sent s l' (.tap i (tries + 1) q (t.ports.map s.desired)) address 0x01#8
            ((t.ports.map s.desired).flatMap settingBytes)) }) ∧
      (e.state = .up ∨ e.state = .suspect → s.link.retryLimit < tries →
        exec (.tryTimerExpiry leg) s = .next { s with
          taps := s.taps.modify i fun _ => { t with
            ports := t.ports.map fun p => { p with confirmed := none }
            state := .silent, countdown := some s.link.silentInterval, origin := none, dirty := false }
          legs := s.legs.set leg (freed s l')
          alarms := s.alarms.raise .tapSilent i .condition ⟨s.clock.minute, s.clock.second⟩ }))

/-- R58, R79, R80, R85: the measurement of RX goes on from the one in progress, or afresh after a break: a return fault begins when RX has been at space for longer than one
character time, and ends after one character time at mark; a shorter time is the measurement in progress. Time spent TRANSMITTING counts for nothing. A fault that begins while AWAITING
abandons the transaction: a tap returns to the head of its origin queue, a ROUTINE poll of an element still UP, SUSPECT or DOWN is due again.
That the commands carry the time measured (log 18), and that the activity alone decides whether RX is watched (log 35), are the model's choice. -/
def Obligations.ReturnFaultsBeginAndEnd : Prop :=
  ∀ (s : State) (leg micros total : Nat) (unbroken : Bool) (l : Leg), s.legs[leg]? = some l → s.taps.wf = true → s.elements.wf = true →
    total = (if unbroken then l.measured + micros else micros) →
    (l.activity = .transmitting → exec (.returnFaultBegins leg ⟨micros, unbroken⟩) s = .next s ∧ exec (.returnFaultEnds leg ⟨micros, unbroken⟩) s = .next s) ∧
    (l.activity ≠ .transmitting → ∀ at_, l.fault = some at_ →
      exec (.returnFaultBegins leg ⟨micros, unbroken⟩) s = .next s ∧
      (total * l.rate.bps < 10 * 1000000 →
        exec (.returnFaultEnds leg ⟨micros, unbroken⟩) s = .next { s with legs := s.legs.set leg { l with measured := total } }) ∧
      (10 * 1000000 ≤ total * l.rate.bps →
        exec (.returnFaultEnds leg ⟨micros, unbroken⟩) s = .next { s with
          legs := s.legs.set leg { l with fault := none, measured := 0 }, alarms := s.alarms.endCondition .legReturnFault leg })) ∧
    (l.activity ≠ .transmitting → l.fault = none →
      exec (.returnFaultEnds leg ⟨micros, unbroken⟩) s = .next s ∧
      (total * l.rate.bps ≤ 10 * 1000000 →
        exec (.returnFaultBegins leg ⟨micros, unbroken⟩) s = .next { s with legs := s.legs.set leg { l with measured := total } }) ∧
      (10 * 1000000 < total * l.rate.bps →
      ∃ (l' : Leg) (u : State),
        l' = { l with
          fault := some ⟨s.clock.minute, s.clock.second⟩, measured := 0
          counters := { l.counters with faults := if l.counters.faults < 65535 then l.counters.faults + 1 else 65535 } } ∧
        u = { s with alarms := s.alarms.raise .legReturnFault leg .condition ⟨s.clock.minute, s.clock.second⟩ } ∧
        (l.activity = .idle → exec (.returnFaultBegins leg ⟨micros, unbroken⟩) s = .next { u with legs := s.legs.set leg l' }) ∧
        (l.activity = .awaiting → ∀ l'' : Leg, l'' = freed s { l' with counters := { l'.counters with
            abandoned := if l.counters.abandoned < 65535 then l.counters.abandoned + 1 else 65535 } } →
          (∀ i tries q built address t, l.txn = some ⟨.tap i tries q built, address⟩ → s.taps.get? i = some t →
            exec (.returnFaultBegins leg ⟨micros, unbroken⟩) s = .next { u with
              taps := s.taps.modify i fun _ => { t with origin := none, dirty := false }
              urgent := if q = .urgent then i :: s.urgent else s.urgent
              bulk := if q = .bulk then i :: s.bulk else s.bulk
              legs := s.legs.set leg l'' }) ∧
          (∀ e address x, l.txn = some ⟨.poll e false false, address⟩ → s.elements.get? e = some x →
            exec (.returnFaultBegins leg ⟨micros, unbroken⟩) s = .next { u with
              elements := s.elements.modify e fun _ => { x with
                pollDue := if x.state = .up ∨ x.state = .suspect ∨ x.state = .down then true else x.pollDue }
              legs := s.legs.set leg l'' }) ∧
          (∀ e address priority retired, l.txn = some ⟨.poll e priority retired, address⟩ → priority = true ∨ retired = true →
            exec (.returnFaultBegins leg ⟨micros, unbroken⟩) s = .next { u with legs := s.legs.set leg l'' }))))

/-! ## Plant topology (chapter 5) -/

/-- R76, R77: a leg whose poll has ended by its timer. -/
def afterExpiry (s : State) (l : Leg) : Leg :=
  freed s { l with counters := { l.counters with expired := if l.counters.expired < 65535 then l.counters.expired + 1 else 65535 } }

/-- R71, R77, R93 to R96: a poll whose timer runs out is a miss, applied in the state the element holds: discarded, counted, or, at the miss threshold, the element is
DOWN, raising ELEMENT_DOWN, with every element below it that is not SHADOWED shadowed and the ELEMENT_DOWN of those that were DOWN ended. A miss handed to no one (a retired
element) changes no record. A poll whose timer has not run out does not end. That a try may time out while it is still TRANSMITTING is the model's choice (log 15). -/
def Obligations.MissesMoveElements : Prop :=
  ∀ (s : State) (leg e address : Nat) (l : Leg) (priority retired : Bool),
    s.legs[leg]? = some l → l.txn = some ⟨.poll e priority retired, address⟩ →
    (l.tryTimer ≠ 0 → exec (.tryTimerExpiry leg) s = .next s) ∧
    (l.tryTimer = 0 → retired = true → exec (.tryTimerExpiry leg) s = .next { s with legs := s.legs.set leg (afterExpiry s l) }) ∧
    (l.tryTimer = 0 → retired = false → ∀ x miss, s.elements.get? e = some x → miss = (if x.miss < 15 then x.miss + 1 else 15) →
      ∃ u : State, exec (.tryTimerExpiry leg) s = .next u ∧ u.legs = s.legs.set leg (afterExpiry s l) ∧
        u = { s with legs := u.legs, elements := u.elements, alarms := u.alarms } ∧
        (x.state = .shadowed → u.elements = s.elements ∧ u.alarms = s.alarms) ∧
        (x.state = .down ∨ (x.state = .verify ∧ miss < s.topo.missThreshold) →
          u.elements = s.elements.modify e (fun x => { x with miss := min (x.miss + 1) 15 }) ∧ u.alarms = s.alarms) ∧
        ((x.state = .up ∨ x.state = .suspect) → miss < s.topo.missThreshold →
          u.elements.get? e = some { x with state := .suspect, miss := miss, since := some (x.since.getD s.clock.minute) } ∧
          (∀ j, j ≠ e → u.elements.get? j = s.elements.get? j) ∧ u.alarms = s.alarms) ∧
        ((x.state = .up ∨ x.state = .suspect ∨ x.state = .verify) → s.topo.missThreshold ≤ miss →
          ∃ since, since = (if x.state = .verify then x.since else some (x.since.getD s.clock.minute)) ∧
          u.elements.get? e = some { x with state := .down, miss := miss, since := since, priority := false } ∧
          (∀ j, j ≠ e → u.elements.get? j = (s.elements.get? j).map fun y =>
            if s.under e j = true ∧ y.state ≠ .shadowed
              then { y with state := .shadowed, miss := 0, since := (match y.since with | some m => some m | none => since)
                            pollDue := false, priority := false } else y) ∧
          u.alarms = ((s.elements.filter fun (p : Nat × Element) => decide (p.1 ≠ e ∧ s.under e p.1 = true ∧ p.2.state = .down)).map Prod.fst).foldl
            (fun a j => a.endCondition .elementDown j) (s.alarms.raise .elementDown e .condition ⟨s.clock.minute, s.clock.second⟩)))

/-- R102, R103: the alarm table after a reply in which a condition stood before and stands after: raised when it comes to stand, ended when it ceases to. -/
def followed (a : AlarmUnit) (k : AlarmKind) (e : Nat) (now : Stamp) (before after : Bool) : AlarmUnit :=
  match before, after with
  | false, true => a.raise k e .condition now
  | true, false => a.endCondition k e
  | _, _ => a

/-- R70, R77, R93, R97 to R99, R102, R103: a valid poll reply, applied in the state the element holds: an element that was DOWN or VERIFY is restored, its
children are VERIFY and a sweep of its subtree is requested (R62: SweepRequestStartsOrJoins says what a request does); supply and level are stored; ELEMENT_DOWN ends where it was
DOWN, then ELEMENT_ON_BATTERY, ELEMENT_BATTERY_LOW and ELEMENT_LEVEL are raised or ended where they come to stand or cease to; that the level comes after the supply is the model's choice (log 44). A reply handed to no one (a retired element) changes
no record. -/
def Obligations.RepliesRestoreElements : Prop :=
  (∀ (s : State) (leg e address : Nat) (l : Leg) (priority : Bool) (x : Element) (chars : List Byte) (a b : Byte) (supply : Supply) (level : Int),
    s.legs[leg]? = some l → l.activity = .awaiting → l.tryTimer ≠ 0 → l.txn = some ⟨.poll e priority false, address⟩ →
    l.rx = [] → address ≤ 65535 → l.tag ≤ 255 → chars = legFrame address 0x02#8 l.tag [a, b] → s.elements.get? e = some x → x.parent ≠ some e →
    supply = (if a = 0#8 then .mains else if a = 1#8 then .battery else if a = 2#8 then .batteryLow else x.supply) →
    level = (if b = 0x80#8 then -127 else b.toInt) →
    ∃ u : State, exec (.replyFrameReceived leg chars) s = .next u ∧
      u.legs = s.legs.set leg (freed s { l with counters := { l.counters with
        valid := if l.counters.valid < 65535 then l.counters.valid + 1 else 65535 } }) ∧
      u = { s with legs := u.legs, elements := u.elements, alarms := u.alarms, taps := u.taps, sweep := u.sweep, scopes := u.scopes } ∧
      (x.state = .shadowed → u.elements = s.elements ∧ u.alarms = s.alarms ∧ u.sweep = s.sweep ∧ u.scopes = s.scopes ∧ u.taps = s.taps) ∧
      (x.state ≠ .shadowed → u.elements.get? e = some { x with
        state := .up, miss := 0, since := none, supply := supply, level := some level
        priority := if x.state = .verify then false else x.priority }) ∧
      (x.state = .up ∨ x.state = .suspect →
        (∀ j, j ≠ e → u.elements.get? j = s.elements.get? j) ∧ u.sweep = s.sweep ∧ u.scopes = s.scopes ∧ u.taps = s.taps) ∧
      (x.state = .down ∨ x.state = .verify →
        (∀ j, j ≠ e → u.elements.get? j = (s.elements.get? j).map fun y =>
          if y.parent = some e then { y with state := .verify, miss := 0, priority := true } else y) ∧
        u.sweep = (s.requestSweep (.subtree e)).sweep ∧ u.scopes = (s.requestSweep (.subtree e)).scopes ∧
        u.taps = (s.requestSweep (.subtree e)).taps) ∧
      (x.state ≠ .shadowed → ∀ (now : Stamp) (a0 a1 a2 : AlarmUnit), now = ⟨s.clock.minute, s.clock.second⟩ →
        a0 = (if x.state = .down then s.alarms.endCondition .elementDown e else s.alarms) →
        a1 = followed a0 .elementOnBattery e now (decide (x.supply = .battery ∨ x.supply = .batteryLow))
          (decide (supply = .battery ∨ supply = .batteryLow)) →
        a2 = followed a1 .elementBatteryLow e now (decide (x.supply = .batteryLow)) (decide (supply = .batteryLow)) →
        u.alarms = followed a2 .elementLevel e now (decide (∃ old, x.level = some old ∧ s.topo.levelLimit < old.natAbs))
          (decide (s.topo.levelLimit < level.natAbs)))) ∧
  (∀ (s : State) (leg e address : Nat) (l : Leg) (priority : Bool) (a b : Byte), s.legs[leg]? = some l → l.activity = .awaiting →
    l.tryTimer ≠ 0 → l.txn = some ⟨.poll e priority true, address⟩ → l.rx = [] → address ≤ 65535 → l.tag ≤ 255 →
    exec (.replyFrameReceived leg (legFrame address 0x02#8 l.tag [a, b])) s = .next { s with
      legs := s.legs.set leg (freed s { l with counters := { l.counters with
        valid := if l.counters.valid < 65535 then l.counters.valid + 1 else 65535 } }) })

/-- R105: an element as it is sent: with the number of its children, of the taps it feeds, and whether a poll of it is in flight on a leg (log 9). -/
def elementOctets (s : State) (e : Nat) (x : Element) : List Byte :=
  w16 x.address ++ (match x.parent with | none => [0#8, 0#8] | some p => w8 1 ++ w8 p) ++ w8 x.leg ++ w8 x.depth
    ++ w8 (match x.state with | .up => 0 | .suspect => 1 | .down => 2 | .shadowed => 3 | .verify => 4) ++ w8 x.miss
    ++ (match x.since with | none => List.replicate 5 0#8 | some m => w8 1 ++ w32 m)
    ++ w8 (match x.supply with | .mains => 0 | .battery => 1 | .batteryLow => 2 | .unknown => 3)
    ++ (match x.level with | none => [0#8, 0#8] | some l => [1#8, BitVec.ofInt 8 l])
    ++ w8 (if x.pollDue then 1 else 0) ++ w8 (if x.priority then 1 else 0)
    ++ w8 (s.elements.filter fun (p : Nat × Element) => p.2.parent = some e).length
    ++ w16 (s.taps.filter fun (p : Nat × Tap) => p.2.feeding = e).length
    ++ w8 (if s.legs.any fun l => match l.txn with
        | some ⟨.poll e' _ false, _⟩ => e' = e
        | _ => false then 1 else 0)

/-- R89, R90, R91, R105, R106: enrolling an element at the lowest free index in the state its mode and parent give, retiring one that has no child and feeds no tap, and the
two reads.
Places and widths of response bytes that the manual leaves open are the model's choice (log 9). -/
def Obligations.ElementRequests : Prop :=
  (∀ (s : State) (body : List Byte) (x : Element), s.listening → body.length = 4 → u16 body 0 ≠ 0 → u16 body 0 ≠ 65535 →
    (∀ i t, (i, t) ∈ s.taps → t.address ≠ u16 body 0) → (∀ i y, (i, y) ∈ s.elements → y.address ≠ u16 body 0) →
    s.elements.length < 128 → s.elements.wf = true →
    ((u8 body 2 = 255 ∧ u8 body 3 ≤ 3 ∧
        x = ⟨u16 body 0, none, u8 body 3, 1, .suspect, 0, none, .unknown, none, decide (s.mode = .live), false⟩) ∨
      (∃ p, u8 body 2 ≤ 127 ∧ s.elements.get? (u8 body 2) = some p ∧ p.depth ≠ 16 ∧
        (((s.mode = .loading ∨ p.state = .up ∨ p.state = .suspect) ∧
          x = ⟨u16 body 0, some (u8 body 2), p.leg, p.depth + 1, .suspect, 0, none, .unknown, none, decide (s.mode = .live), false⟩) ∨
        (s.mode = .live ∧ (p.state = .down ∨ p.state = .shadowed ∨ p.state = .verify) ∧
          x = ⟨u16 body 0, some (u8 body 2), p.leg, p.depth + 1, .shadowed, 0, p.since, .unknown, none, false, false⟩)))) →
    ∃ (i : Nat) (elements : Table Element),
      exec (.enrolElement body) s = .next ({ s with elements := elements }.replied 4 ⟨.ok, w8 i ++ w8 x.state.code⟩) ∧
      s.elements.get? i = none ∧ (∀ j, j < i → (s.elements.get? j).isSome) ∧ elements.get? i = some x ∧
      (∀ j, j ≠ i → elements.get? j = s.elements.get? j)) ∧
  (∀ (s : State) (body : List Byte) (e : Nat) (x : Element), s.listening → body.length = 1 → e = u8 body 0 → e ≤ 127 →
    s.elements.get? e = some x → (∀ j y, (j, y) ∈ s.elements → y.parent ≠ some e) → (∀ i t, (i, t) ∈ s.taps → t.feeding ≠ e) →
    ∃ (legs : List Leg) (alarms : AlarmUnit),
      exec (.retireElement body) s =
        .next ({ s with elements := s.elements.erase e, legs := legs, alarms := alarms }.replied 1 ⟨.ok, []⟩) ∧
      (∀ (n : Nat) (l : Leg), s.legs[n]? = some l →
        legs[n]? = some { l with txn := l.txn.map fun t => match t.work with
          | .poll e' p r => { t with work := .poll e' p (if e' = e then true else r) }
          | .tap _ _ _ _ => t }) ∧
      alarms = (let a1 := if x.state = .down then s.alarms.endCondition .elementDown e else s.alarms
        let a2 := if x.supply = .battery ∨ x.supply = .batteryLow then a1.endCondition .elementOnBattery e else a1
        let a3 := if x.supply = .batteryLow then a2.endCondition .elementBatteryLow e else a2
        if ∃ level, x.level = some level ∧ s.topo.levelLimit < level.natAbs then a3.endCondition .elementLevel e else a3)) ∧
  (∀ (s : State) (body : List Byte) (x : Element), s.listening → body.length = 1 → u8 body 0 ≤ 127 →
    s.elements.get? (u8 body 0) = some x →
    exec (.readElement body) s = .next (s.replied 1 ⟨.ok, elementOctets s (u8 body 0) x⟩)) ∧
  (∀ (s : State) (body : List Byte) (e : Nat) (x : Element), s.listening → body.length = 2 → u8 body 0 ≤ 128 → s.elements.wf = true →
    u8 body 0 ≤ e → s.elements.get? e = some x → (body.getD 1 0#8).getLsbD x.state.code = true →
    (∀ j y, u8 body 0 ≤ j → j < e → s.elements.get? j = some y → (body.getD 1 0#8).getLsbD y.state.code = false) →
    exec (.nextElement body) s = .next (s.replied 2 ⟨.ok, elementOctets s e x⟩))

/-- R104: an element that a lower threshold finds at or above it. -/
def overThreshold (s : State) (threshold e : Nat) : Prop :=
  ∃ x, s.elements.get? e = some x ∧ (x.state = .suspect ∨ x.state = .verify) ∧ threshold ≤ x.miss

/-- R95, R104: an element that goes DOWN: at or above the threshold, with no element above it that is. -/
def goesDown (s : State) (threshold e : Nat) : Prop :=
  overThreshold s threshold e ∧ ∀ a, a ≠ e → s.under a e = true → ¬overThreshold s threshold a

/-- R103, R104: Set Topology Parameters. With a threshold that is not lower, no element changes state. With a lower one (in a tree, R88), exactly the highest elements at or above it go
DOWN, the elements below them that are not SHADOWED are shadowed, and every other element is as it was; by depth, then by index, each raises ELEMENT_DOWN and ends that of the DOWN
elements below it. ELEMENT_LEVEL is raised or ended in index order where its answer changes; that this comes after the effect of the threshold is the model's choice (log 36). -/
def Obligations.TopologyParametersTakeEffect : Prop :=
  ∀ (s : State) (body : List Byte), s.listening → body.length = 2 → 1 ≤ u8 body 0 → u8 body 0 ≤ 15 → 1 ≤ u8 body 1 → u8 body 1 ≤ 127 →
    ∃ (t : State) (downs : AlarmUnit) (now : Stamp), exec (.setTopologyParameters body) s = .next (t.replied 2 ⟨.ok, []⟩) ∧
      now = ⟨s.clock.minute, s.clock.second⟩ ∧
      t = { s with topo := ⟨u8 body 0, u8 body 1⟩, elements := t.elements, alarms := t.alarms } ∧
      t.alarms = s.elements.foldl (fun (a : AlarmUnit) (p : Nat × Element) =>
          match p.2.level with
          | none => a
          | some level =>
            if ¬ s.topo.levelLimit < level.natAbs ∧ u8 body 1 < level.natAbs then a.raise .elementLevel p.1 .condition now
            else if s.topo.levelLimit < level.natAbs ∧ ¬ u8 body 1 < level.natAbs then a.endCondition .elementLevel p.1
            else a) downs ∧
      (s.topo.missThreshold ≤ u8 body 0 → t.elements = s.elements ∧ downs = s.alarms) ∧
      (u8 body 0 < s.topo.missThreshold → s.elements.wf = true → s.Rooted →
        (∀ e, s.elements.get? e = none → t.elements.get? e = none) ∧
        (∀ e x, s.elements.get? e = some x →
          (goesDown s (u8 body 0) e → t.elements.get? e = some { x with state := .down, priority := false }) ∧
          (∀ top y, top ≠ e → goesDown s (u8 body 0) top → s.under top e = true → s.elements.get? top = some y → t.elements.get? e =
            some (if x.state = .shadowed then x else { x with
              state := .shadowed, miss := 0, since := (match x.since with | some m => some m | none => y.since)
              pollDue := false, priority := false })) ∧
          ((∀ top, goesDown s (u8 body 0) top → s.under top e = false) → t.elements.get? e = some x)) ∧
        (∀ tops : List Nat, (∀ e, e ∈ tops ↔ goesDown s (u8 body 0) e) →
          tops.Pairwise (fun e f => ∀ x y, s.elements.get? e = some x → s.elements.get? f = some y → x.depth < y.depth ∨ (x.depth = y.depth ∧ e < f)) →
          downs = tops.foldl (fun (a : AlarmUnit) (e : Nat) =>
            ((s.elements.filter fun (p : Nat × Element) => decide (p.1 ≠ e ∧ s.under e p.1 = true ∧ p.2.state = .down)).map Prod.fst).foldl
              (fun a j => a.endCondition .elementDown j) (a.raise .elementDown e .condition now)) s.alarms))

/-! ## Time base (chapter 6) -/

/-- R109, R110, R113, R114, R115: `t` is `s` after a second edge: the second count rises, and from 59 a minute boundary is made, announced to three blocks and, in
LIVE, handed to the Billing Unit as a pass start, a held boundary or a slip, with its close mark. -/
def isEdge (byPulse : Bool) (s t : State) : Prop :=
  (s.clock.second < 59 →
    t = { s with clock := { s.clock with second := s.clock.second + 1, phase := 0, pulseMark := byPulse } }) ∧
  (s.clock.second = 59 → ∀ (n : Nat) (c : TimeBase) (a : Announced) (mark : Option Nat), n = (s.clock.minute + 1) % 4294967296 →
    c = { s.clock with minute := n, second := 0, phase := 0, pulseMark := byPulse } →
    a = ⟨s.announced.lineUp ++ [n], s.announced.events ++ [n], s.announced.taps ++ [n]⟩ →
    mark = (if s.billing.nextClose = some n then some n else none) →
    (s.mode = .loading → t = { s with clock := c, announced := a }) ∧
    (s.mode = .live → s.billing.pass = none →
      t = { s with clock := c, announced := a, billing := { s.billing with pass := some ⟨s.clock.minute, 0, mark⟩ } }) ∧
    (s.mode = .live → s.billing.pass.isSome → s.clock.pending = none →
      t = { s with announced := a, clock := { c with pending := some ⟨s.clock.minute, mark⟩ } }) ∧
    (s.mode = .live → s.billing.pass.isSome → ∀ held, s.clock.pending = some held →
      t = { s with
        announced := a
        clock := { c with pending := some ⟨held.minute, if mark.isSome then mark else held.close⟩ }
        billing := { s.billing with slipped := if s.billing.slipped < 65535 then s.billing.slipped + 1 else 65535 }
        alarms := s.alarms.raise .meterSlip 0 .occurrence ⟨n, 0⟩ }))

/-- R110: the clock after a pulse taken, before its edge or realignment. -/
def pulseTakenIn (s : State) : State := { s with
  clock := { s.clock with
    taken := if s.clock.taken < 65535 then s.clock.taken + 1 else 65535, lossTimer := some 0, ref := .tracking, holdover := none }
  alarms := if s.clock.ref = .holdover then s.alarms.endCondition .refLost 0 else s.alarms }

/-- R109, R110, R111: the crystal's edge when the phase has reached 1 s, and none before; a pulse taken to make an edge, taken to realign, ignored, or not counted; a pulse and a
crystal edge that arrive together give the same state in either order (out of HOLDOVER); and the loss of the reference when the loss timer has reached 3 s, and not before. That a pulse
which ends a holdover does so before the boundary it makes is the model's choice (log 37). -/
def Obligations.EdgesPulsesAndTheLossOfTheReference : Prop :=
  ∀ s : State,
    (1000 ≤ s.clock.phase → ∃ t : State, exec .secondEdge s = .next t ∧ isEdge false s t) ∧
    (s.clock.phase < 1000 → exec .secondEdge s = .next s) ∧
    (s.clock.ref = .acquiring ∨ s.clock.ref = .tracking → 1000 ≤ s.clock.phase → ∃ t u v : State,
      exec .secondEdge s = .next t ∧ exec .referencePulse t = .next v ∧ exec .referencePulse s = .next u ∧ exec .secondEdge u = .next v) ∧
    (s.clock.ref = .notSelected → exec .referencePulse s = .next s) ∧
    (s.clock.ref ≠ .notSelected → 500 ≤ s.clock.phase → ∃ t : State, exec .referencePulse s = .next t ∧ isEdge true (pulseTakenIn s) t) ∧
    (s.clock.ref ≠ .notSelected → s.clock.phase < 500 → s.clock.pulseMark = false → exec .referencePulse s = .next
      { pulseTakenIn s with clock := { (pulseTakenIn s).clock with phase := 0, pulseMark := true } }) ∧
    (s.clock.ref ≠ .notSelected → s.clock.phase < 500 → s.clock.pulseMark = true → exec .referencePulse s = .next { s with
      clock := { s.clock with ignored := if s.clock.ignored < 65535 then s.clock.ignored + 1 else 65535 } }) ∧
    (∀ ms, s.clock.lossTimer = some ms → ms < 3000 → exec .lossTimerExpiry s = .next s) ∧
    (∀ ms, s.clock.lossTimer = some ms → 3000 ≤ ms → s.clock.ref = .acquiring ∨ s.clock.ref = .tracking → exec .lossTimerExpiry s = .next { s with
      clock := { s.clock with
        ref := .holdover, lossTimer := none, holdover := some ⟨s.clock.minute, s.clock.second⟩
        holdovers := if s.clock.holdovers < 65535 then s.clock.holdovers + 1 else 65535 }
      alarms := s.alarms.raise .refLost 0 .condition ⟨s.clock.minute, s.clock.second⟩ }) ∧
    (s.clock.ref = .notSelected ∨ s.clock.ref = .holdover → exec .lossTimerExpiry s = .next s)

/-- R112, R116, R117, R119: the four clock requests. R117: a second edge and an Adjust Clock that arrive together leave the second given, with the phase at 0, in either order: an
edge made first is followed by the adjustment, and after the adjustment no edge comes.
Places and widths of response bytes that the manual leaves open, a stopped loss timer sent as an absent field, and the rounding of the tenths, are the model's choice (log 9,
log 48, log 20). -/
def Obligations.ClockRequests : Prop :=
  ∀ (s : State) (body : List Byte), s.listening →
    (body.length = 1 →
      (u8 body 0 ≠ 0 → s.clock.ref = .notSelected → exec (.setReference body) s = .next ({ s with
        clock := { s.clock with ref := .acquiring, lossTimer := some 0, pulseMark := false } }.replied 1 ⟨.ok, [1#8]⟩)) ∧
      (u8 body 0 ≠ 0 → s.clock.ref ≠ .notSelected →
        exec (.setReference body) s = .next (s.replied 1 ⟨.ok, w8 s.clock.ref.code⟩)) ∧
      (u8 body 0 = 0 → s.clock.ref ≠ .notSelected → exec (.setReference body) s = .next ({ s with
        clock := { s.clock with ref := .notSelected, lossTimer := none, holdover := none }
        alarms := (if s.clock.ref = RefState.holdover then s.alarms.endCondition .refLost 0 else s.alarms) }.replied 1 ⟨.ok, [0#8]⟩)) ∧
      (u8 body 0 = 0 → s.clock.ref = .notSelected → exec (.setReference body) s = .next (s.replied 1 ⟨.ok, [0#8]⟩)) ∧
      (u8 body 0 ≤ 59 → exec (.adjustClock body) s = .next ({ s with
        clock := { s.clock with second := u8 body 0, phase := 0, pulseMark := false } }.replied 1
        ⟨.ok, w32 s.clock.minute ++ w8 (u8 body 0)⟩)) ∧
      (u8 body 0 ≤ 59 → 1000 ≤ s.clock.phase → ∃ t u v : State,
        exec .secondEdge s = .next t ∧ exec (.adjustClock body) t = .next u ∧ u.clock.second = u8 body 0 ∧ u.clock.phase = 0 ∧
        exec (.adjustClock body) s = .next v ∧ exec .secondEdge v = .next v ∧ v.clock.second = u8 body 0 ∧ v.clock.phase = 0)) ∧
    (body.length = 5 → u8 body 4 ≤ 59 →
      (s.mode = .loading → exec (.setClock body) s = .next ({ s with
        clock := { s.clock with minute := u32 body 0, second := u8 body 4, phase := 0, pulseMark := false } }.replied 5 ⟨.ok, []⟩)) ∧
      (s.mode = .live → exec (.setClock body) s = .next (s.replied 5 ⟨.badState, []⟩))) ∧
    (exec (.readClock []) s = .next (s.replied 0 ⟨.ok, w32 s.clock.minute ++ w8 s.clock.second
      ++ w8 (if s.clock.ref = RefState.notSelected then 0 else 1) ++ w8 s.clock.ref.code
      ++ (match s.clock.lossTimer with | none => [0#8, 0#8] | some ms => w8 1 ++ w8 (ms / 100))
      ++ (match s.clock.holdover with | none => List.replicate 6 0#8 | some x => w8 1 ++ w32 x.minute ++ w8 x.second)
      ++ (match s.clock.pending with
          | none => List.replicate 6 0#8
          | some b => w8 1 ++ w32 b.minute ++ w8 (if b.close.isSome then 1 else 0))
      ++ w16 s.clock.taken ++ w16 s.clock.ignored ++ w16 s.clock.holdovers⟩))

/-! ## Billing and metering (chapter 7) -/

/-- R134, R135, R136: Top Up, Post Payment and Post Adjustment: the money after, clamped, the state after, the urgent need that a change of state makes, and the response.
That the figure after an adjustment is the balance or owed is the model's choice (log 42). Places and widths of response bytes that the manual leaves open are the model's choice (log 9). -/
def Obligations.MoneyRequests : Prop :=
  ∀ (s : State) (body : List Byte) (i : Nat) (r : Subscriber) (x : SubState), s.listening → body.length = 8 → s.holds (u32 body 0) i r →
    r.state ≠ .closed →
    (∀ old after : Nat, r.purse = .prepaid old → 1 ≤ u32 body 4 → u32 body 4 ≤ 99999999 → after = min (old + u32 body 4) 99999999 →
      x = (if r.state = .lapsed then .active else r.state) →
      ∃ u : State, u = s.withSub i { r with purse := .prepaid after, state := x } ∧
        exec (.topUp body) s = .next ((if x = r.state then u else u.needFor r.tapPort).replied 8
          ⟨.ok, w32 (after - old) ++ wi32 after ++ w8 x.code⟩)) ∧
    (∀ (owed after : Int) (ceiling : Nat), r.purse = .account owed ceiling → 1 ≤ u32 body 4 → u32 body 4 ≤ 99999999 →
      after = max (-99999999) (min (owed - u32 body 4) 99999999) →
      x = (if r.state = .lapsed ∧ after ≤ ceiling then .active else r.state) →
      ∃ u : State, u = s.withSub i { r with purse := .account after ceiling, state := x } ∧
        exec (.postPayment body) s = .next ((if x = r.state then u else u.needFor r.tapPort).replied 8
          ⟨.ok, wi32 (owed - after) ++ wi32 after ++ w8 x.code⟩)) ∧
    (∀ amount : Int, amount = i32 body 4 → -99999999 ≤ amount → amount ≤ 99999999 →
      (∀ (owed after : Int) (ceiling : Nat), r.purse = .account owed ceiling → after = max (-99999999) (min (r.adjCents + amount) 99999999) →
        exec (.postAdjustment body) s = .next ((s.withSub i { r with adjCents := after }).replied 8
          ⟨.ok, wi32 (after - r.adjCents) ++ wi32 owed ++ w8 r.state.code⟩)) ∧
      (∀ old after : Nat, r.purse = .prepaid old → (after : Int) = max 0 (min (old + amount) 99999999) →
        x = (if r.state = .active ∧ after = 0 then .lapsed else if r.state = .lapsed ∧ 0 < after then .active else r.state) →
        ∃ u : State, u = s.withSub i { r with
            purse := .prepaid after, state := x
            adjCents := max (-99999999) (min (r.adjCents - ((after : Int) - old)) 99999999) } ∧
          exec (.postAdjustment body) s = .next ((if x = r.state then u else u.needFor r.tapPort).replied 8
            ⟨.ok, wi32 ((after : Int) - old) ++ wi32 after ++ w8 x.code⟩)))

/-- R137, R138, R139, R140: collecting a statement, moving the next close, the billing parameters and Read Billing.
The two minutes of Set Next Close's response are optional fields with their presence bytes (R180). Places and widths of response bytes that the manual leaves open, and
the presence byte of a pass's close minute, are the model's choice (log 9, log 48). -/
def Obligations.StatementsAndBillingRequests : Prop :=
  (∀ (s : State) (body : List Byte) (i : Nat) (r : Subscriber) (x : Statement), s.listening → body.length = 4 → s.holds (u32 body 0) i r →
    r.slot = some x →
    exec (.collectStatement body) s = .next ((s.withSub i { r with slot := none }).replied 4 ⟨.ok,
      w32 r.account ++ w8 (match r.purse with | .prepaid _ => 0 | .account _ _ => 1) ++ w8 (if x.final then 1 else 0)
      ++ w16 x.firstPeriod ++ w16 x.lastPeriod ++ w8 x.spanned ++ w32 x.tier ++ w32 x.credit ++ w32 x.event ++ w32 x.refund
      ++ wi32 x.adjustment ++ wi32 x.net ++ wi32 x.after ++ w24 x.chargedMin ++ w24 x.creditedMin⟩)) ∧
  (∀ (s : State) (body : List Byte) (start : Nat), s.listening → s.mode = .live → body.length = 4 → s.billing.start = some start →
    (∀ p, s.billing.pass = some p → p.close = none) → (∀ b, s.clock.pending = some b → b.close = none) →
    s.clock.minute < u32 body 0 → start < u32 body 0 → u32 body 0 ≤ start + 44640 →
    exec (.setNextClose body) s = .next ({ s with billing := { s.billing with nextClose := some (u32 body 0) } }.replied 4
      ⟨.ok, w8 1 ++ w32 start ++ w8 1 ++ w32 (u32 body 0)⟩)) ∧
  (∀ (s : State) (body : List Byte), s.listening → body.length = 4 → 1440 ≤ u16 body 0 → u16 body 0 ≤ 44640 → u16 body 2 ≤ 10080 →
    exec (.setBillingParameters body) s =
      .next ({ s with billing := { s.billing with length := u16 body 0, threshold := u16 body 2 } }.replied 4 ⟨.ok, []⟩)) ∧
  (∀ s : State, s.listening → exec (.readBilling []) s = .next (s.replied 0 ⟨.ok, w16 s.billing.period
    ++ (match s.billing.start with | none => List.replicate 5 0#8 | some m => w8 1 ++ w32 m)
    ++ (match s.billing.nextClose with | none => List.replicate 5 0#8 | some m => w8 1 ++ w32 m)
    ++ w16 s.billing.length ++ w16 s.billing.threshold ++ w16 s.billing.slipped
    ++ (match s.billing.pass with
        | none => List.replicate 13 0#8
        | some p => w8 1 ++ w8 (if p.close.isSome then 1 else 0) ++ w32 p.minute ++ w16 p.next
            ++ (match p.close with | none => List.replicate 5 0#8 | some m => w8 1 ++ w32 m))⟩))

/-- R122: the rate sum of a tier set: the current rates of its tiers. -/
def rateOfSet (s : State) (set : BitVec 16) : Nat :=
  ((List.range 16).map fun n => if set.getLsbD n then ((s.tiers[n]?).map Tier.rate).getD 0 else 0).sum

/-- R101, R125: the record has a tap port whose tap's feeding element is DOWN, SHADOWED or VERIFY. -/
def cutOff (s : State) (r : Subscriber) : Prop :=
  ∃ p t, r.tapPort = some p ∧ s.taps.get? p.tap = some t ∧
    ∀ e, s.elements.get? t.feeding = some e → e.state = .down ∨ e.state = .shadowed ∨ e.state = .verify

/-- A PREPAID record with a balance above 0. -/
def hasCents (r : Subscriber) : Bool :=
  match r.purse with
  | .prepaid balance => decide (0 < balance)
  | .account _ _ => false

/-- R126: the state in which the episode of the record at an index, now `r`, has ended: below the threshold its pending credit is discarded; else it is granted, and a LAPSED PREPAID
record with a balance above 0 is restored by an automatic change. -/
def episodeOver (s : State) (i : Nat) (r : Subscriber) (e : Episode) : State :=
  if e.minutes < s.billing.threshold then s.withSub i { r with episode := none }
  else if r.state = .lapsed ∧ hasCents (credited r e) = true then
    changedByThePart s i { credited r e with state := .active, changed := true, episode := none }
  else s.withSub i { credited r e with episode := none }

/-- R123: `t` is `s` after the minute's work of R123 to R126 on the index `i`. A record that is not ACTIVE is not charged, and its episode ends unless it is CLOSED. An ACTIVE record is charged one
minute of its rate sum, by the accumulator or by a draw that at 0 makes it LAPSED by an automatic change; then the minute extends its outage episode, or ends it. -/
def minuteDone (s t : State) (i : Nat) : Prop :=
  (s.subs.get? i = none → t = s) ∧
  ∀ r, s.subs.get? i = some r →
    (r.state = .closed → t = s) ∧
    (r.state ≠ .active → r.state ≠ .closed → r.episode = none → t = s) ∧
    (r.state ≠ .active → r.state ≠ .closed → ∀ e, r.episode = some e → t = episodeOver s i r e) ∧
    (r.state = .active → ∀ (rate : Nat) (r1 : Subscriber) (s1 : State), rate = rateOfSet s r.tiers →
      ((∃ owed ceiling, r.purse = .account owed ceiling ∧
          r1 = { r with chargedMin := r.chargedMin + 1, chargeAcc := r.chargeAcc + rate } ∧ s1 = s.withSub i r1) ∨
       (∃ balance draw, r.purse = .prepaid balance ∧ draw = (r.chargeAcc + rate) / 43200 ∧
          ((draw < balance ∧ s1 = s.withSub i r1 ∧ r1 = { r with
              chargedMin := r.chargedMin + 1, chargeAcc := (r.chargeAcc + rate) % 43200, drawn := r.drawn + draw
              purse := .prepaid (balance - draw) }) ∨
           (balance ≤ draw ∧ s1 = changedByThePart s i r1 ∧ r1 = { r with
              chargedMin := r.chargedMin + 1, chargeAcc := (r.chargeAcc + rate) % 43200, drawn := r.drawn + draw
              purse := .prepaid 0, state := .lapsed, changed := true })))) →
      (cutOff s r → ∀ e, e = r.episode.getD ⟨0, 0, 0⟩ →
        t = s1.withSub i { r1 with episode := some ⟨min (e.minutes + 1) 65535, e.pendingCm + rate, e.pendingMin + 1⟩ }) ∧
      (¬cutOff s r → r.episode = none → t = s1) ∧
      (¬cutOff s r → ∀ e, r.episode = some e → t = episodeOver s1 i r1 e))

/-- R114: the state in which a pass has ended: a boundary that is held starts its pass at once. -/
def passOver (s : State) : State := { s with
  billing := { s.billing with pass := s.clock.pending.map fun b => ⟨b.minute, 0, b.close⟩ }, clock := { s.clock with pending := none } }

/-- R114, R122 to R126: a visit of a metering pass does the minute's work of the index it has come to and moves on; after index 2,047 the pass is over, and a boundary that is held
starts its pass. The minute's work: an ACTIVE record is charged a minute of its rate sum, and a PREPAID one whose draw reaches its balance lapses by an automatic change; a record cut off from
the plant extends its outage episode, and one that is not, or is no longer ACTIVE, ends it, with its pending credit paid at the threshold and a LAPSED PREPAID record restored. That a LAPSED PREPAID record is restored
whatever lapsed it is the model's choice (log 14). -/
def Obligations.MeteringVisitChargesOneMinute : Prop :=
  (∀ s : State, s.billing.pass = none → exec .meteringVisit s = .next s) ∧
  (∀ (s : State) (p : Pass), s.billing.pass = some p → p.close = none → s.tiers.length = 16 → s.subs.wf = true →
    ∃ t : State, minuteDone s t p.next ∧
      (p.next < 2047 → exec .meteringVisit s = .next { t with billing := { s.billing with pass := some { p with next := p.next + 1 } } }) ∧
      (2047 ≤ p.next → exec .meteringVisit s = .next (passOver t)))

/-- R129 to R131: the record `r` with its period closed: the carried divisions of an ACCOUNT record, the net, owed, and the statement. -/
def closedAt (r : Subscriber) (period : Nat) : Subscriber :=
  match r.purse with
  | .account owed ceiling =>
    let tier := (r.chargeAcc + r.tierCarry) / 43200
    let credit := (r.creditAcc + r.creditRem) / 43200
    stated { r with
      purse := .account (max (-99999999) (min (owed + netWith r tier credit) 99999999)) ceiling
      tierCarry := (r.chargeAcc + r.tierCarry) % 43200, chargeAcc := 0
      creditRem := (r.creditAcc + r.creditRem) % 43200, creditAcc := 0 } period tier credit (netWith r tier credit) false
  | .prepaid _ => stated r period r.drawn r.returned (netWith r r.drawn r.returned) false

/-- R128 to R131: `t` is `s` after the period of the record at index `i` has been closed: an open episode that qualifies pays its pending credit and stays open; then the figures, the lapse of an ACTIVE
ACCOUNT record whose owed has come above its ceiling, and the statement. -/
def periodDone (s t : State) (i : Nat) : Prop :=
  (s.subs.get? i = none → t = s) ∧
  ∀ r, s.subs.get? i = some r →
    (r.state = .closed → t = s) ∧
    (r.state ≠ .closed → ∀ (r1 : Subscriber) (s1 : State),
      ((r.episode = none ∧ r1 = r ∧ s1 = s) ∨
       (∃ e, r.episode = some e ∧ e.minutes < s.billing.threshold ∧ r1 = r ∧ s1 = s) ∨
       (∃ e, r.episode = some e ∧ s.billing.threshold ≤ e.minutes ∧
          (((r.state ≠ .lapsed ∨ hasCents (credited r e) = false) ∧
              r1 = { credited r e with episode := some ⟨e.minutes, 0, 0⟩ } ∧ s1 = s) ∨
           (r.state = .lapsed ∧ hasCents (credited r e) = true ∧
              r1 = { credited r e with state := .active, changed := true, episode := some ⟨e.minutes, 0, 0⟩ } ∧
              s1 = changedByThePart s i r1)))) →
      ((¬∃ owed ceiling, r1.state = .active ∧ (closedAt r1 s.billing.period).purse = .account owed ceiling ∧ (ceiling : Int) < owed) →
        t = s1.withSub i (closedAt r1 s.billing.period)) ∧
      ((∃ owed ceiling, r1.state = .active ∧ (closedAt r1 s.billing.period).purse = .account owed ceiling ∧ (ceiling : Int) < owed) →
        t = changedByThePart s1 i { closedAt r1 s.billing.period with state := .lapsed, changed := true }))

/-- R128 to R132, R41: a visit of a close pass does the minute's work of its index and then closes the period of the record it finds (an open episode at the threshold pays its pending credit and
stays open; the figures; an ACTIVE ACCOUNT record above its ceiling lapses; the statement, new or merged), and moves on; after index 2,047 the close ends: rates
swapped, the period moved on, PERIOD_CLOSED raised and a held boundary's pass started. That an open episode is paid after the minute's work, restoring a LAPSED PREPAID record whatever lapsed it, is the
model's choice (log 14). -/
def Obligations.ClosePassClosesThePeriod : Prop :=
  ∀ (s : State) (p : Pass) (m : Nat), s.billing.pass = some p → p.close = some m → s.tiers.length = 16 → s.subs.wf = true →
    ∃ u t : State, minuteDone s u p.next ∧ periodDone u t p.next ∧
      (p.next < 2047 → exec .meteringVisit s = .next { t with billing := { s.billing with pass := some { p with next := p.next + 1 } } }) ∧
      (2047 ≤ p.next → exec .meteringVisit s = .next (passOver { t with
        tiers := s.tiers.map fun (x : Tier) => ⟨x.staged.getD x.rate, none, x.label⟩
        billing := { s.billing with
          start := some m, period := if s.billing.period = 65535 then 1 else s.billing.period + 1, nextClose := some (m + s.billing.length) }
        alarms := t.alarms.raise .periodClosed 0 .occurrence ⟨s.clock.minute, s.clock.second⟩ }))

/-! ## Pay events (chapter 8) -/

/-- R155: an event as it is sent (log 9). -/
def eventOctets (e : EventRec) : List Byte :=
  w8 e.slot ++ w32 e.openMinute ++ w32 e.closeMinute ++ w32 e.price ++ w16 e.cutoff
    ++ w8 (match e.state with | .scheduled => 0 | .opened => 1 | .ended => 2 | .cancelled => 3) ++ w16 e.dark ++ w16 e.count
    ++ (match e.walk with | none => List.replicate 4 0#8 | some w => w8 1 ++ w16 w.next ++ w8 (if w.refundDue then 1 else 0))

/-- R143, R151, R154, R155: defining an event, removing one, the dark refund threshold and the two reads.
Places and widths of response bytes that the manual leaves open are the model's choice (log 9). -/
def Obligations.EventRequests : Prop :=
  (∀ (s : State) (body : List Byte) (id slot opens closes price cutoff : Nat) (x : Slot), s.listening → body.length = 17 →
    id = u16 body 0 → slot = u8 body 2 → opens = u32 body 3 → closes = u32 body 7 → price = u32 body 11 → cutoff = u16 body 15 →
    id ≠ 0 → slot ≤ 95 → opens < closes → closes ≤ opens + 1440 → s.clock.minute < closes → price ≤ 99999 → cutoff ≤ 1440 →
    s.events.get? id = none → s.events.length < 32 → s.slots[slot]? = some x → x.current.state = .carried → x.current.pay = true →
    (∀ j e, (j, e) ∈ s.events → e.slot = slot → e.state = .scheduled ∨ e.state = .opened → e.closeMinute ≤ opens ∨ closes ≤ e.openMinute) →
    exec (.defineEvent body) s =
      .next ({ s with events := s.events.set id ⟨slot, opens, closes, price, cutoff, .scheduled, 0, 0, none⟩ }.replied 17 ⟨.ok, []⟩)) ∧
  (∀ (s : State) (body : List Byte) (e : EventRec), s.listening → body.length = 2 → s.events.get? (u16 body 0) = some e →
    (e.state = .cancelled ∨ (e.state = .ended ∧ e.walk = none) →
      exec (.removeEvent body) s = .next ({ s with events := s.events.erase (u16 body 0) }.replied 2 ⟨.ok, w16 e.count ++ w16 e.dark⟩)) ∧
    (e.state = .scheduled ∨ e.state = .opened ∨ (e.state = .ended ∧ e.walk.isSome) →
      exec (.removeEvent body) s = .next (s.replied 2 ⟨.badState, []⟩)) ∧
    exec (.readEvent body) s = .next (s.replied 2 ⟨.ok, eventOctets e⟩)) ∧
  (∀ (s : State) (body : List Byte) (id : Nat) (e : EventRec), s.listening → body.length = 2 → s.events.wf = true → u16 body 0 < id →
    s.events.get? id = some e → (∀ j, u16 body 0 < j → j < id → s.events.get? j = none) →
    exec (.nextEvent body) s = .next (s.replied 2 ⟨.ok, eventOctets e⟩)) ∧
  (∀ (s : State) (body : List Byte), s.listening → body.length = 1 → 1 ≤ u8 body 0 →
    exec (.setEventParameters body) s = .next ({ s with darkThreshold := u8 body 0 }.replied 1 ⟨.ok, []⟩))

/-- R145, R146, R150: the state in which the record at an index has had an event taken off its purchase list and its price returned, with the automatic change of a LAPSED PREPAID record
restored. -/
def refundedFor (s : State) (id price i : Nat) : State :=
  match s.subs.get? i with
  | none => s
  | some r =>
    let r1 := givenBack { r with purchases := r.purchases.filter (· != id) } price
    if price ≠ 0 ∧ r.state = .lapsed ∧ hasCents r1 = true then changedByThePart s i { r1 with state := .active, changed := true }
    else s.withSub i r1

/-- R146 to R150: a purchase charged or restored, with the urgent need of an OPEN event's buyer; a purchase of a SCHEDULED event withdrawn with its price returned (a LAPSED PREPAID record restored
by a request change; at a price of 0 nothing but the entry and the count changes), and refused otherwise; and an event cancelled: every record whose list names it has it removed and the price
returned, restores as automatic changes with their needs and CREDIT_CHANGE, and a sweep of scope ALL is requested where it was OPEN (R62: SweepRequestStartsOrJoins says what a request does).
The order of the refunds is free (log 8). Places and widths of response bytes that the manual leaves open, the amount a withdrawal reports, and BAD_STATE for a purchase that an
end walk in flight has settled (R153), where else R149 has NOT_FOUND for an event that the list does not name, are the model's choice (log 9, log 23, log 39). -/
def Obligations.PurchasesAndTheirRefunds : Prop :=
  (∀ (s : State) (body : List Byte) (i id : Nat) (r r' : Subscriber) (e : EventRec) (charge : Nat), s.listening → body.length = 7 →
    s.holds (u32 body 0) i r → s.events.wf = true → id = u16 body 4 → id ≠ 0 → s.events.get? id = some e → id ∉ r.purchases →
    r.purchases.length < 4 →
    ((u8 body 6 = 0 ∧ r.state = .active ∧ charge = e.price ∧
        (e.state = .scheduled ∨ (e.state = .opened ∧ s.clock.minute < e.openMinute + e.cutoff)) ∧
        ((∃ balance, r.purse = .prepaid balance ∧ e.price < balance ∧
            r' = { r with purchases := r.purchases ++ [id], purse := .prepaid (balance - e.price)
                          eventCents := min (r.eventCents + e.price) 99999999 }) ∨
         (∃ owed ceiling, r.purse = .account owed ceiling ∧ owed + r.eventCents + e.price ≤ ceiling ∧
            r' = { r with purchases := r.purchases ++ [id], eventCents := min (r.eventCents + e.price) 99999999 }))) ∨
      (u8 body 6 ≠ 0 ∧ s.mode = .loading ∧ r.state ≠ .closed ∧ charge = 0 ∧ (e.state = .scheduled ∨ e.state = .opened) ∧
        r' = { r with purchases := r.purchases ++ [id] })) →
    ∃ u : State, u = { s.withSub i r' with events := s.events.modify id fun e => { e with count := e.count + 1 } } ∧
      exec (.purchase body) s = .next ((if e.state = .opened then u.needFor r.tapPort else u).replied 7
        ⟨.ok, w32 charge ++ wi32 (match r'.purse with | .prepaid b => (b : Int) | .account owed _ => owed) ++ w16 (e.count + 1)⟩)) ∧
  (∀ (s : State) (body : List Byte) (i id : Nat) (r r' : Subscriber) (e : EventRec) (back : Nat), s.listening → body.length = 6 →
    s.holds (u32 body 0) i r → id = u16 body 4 → s.events.get? id = some e → id ∈ r.purchases → e.state = .scheduled → e.price ≠ 0 →
    ((∃ balance, r.purse = .prepaid balance ∧ back = min (balance + e.price) 99999999 - balance ∧
        r' = { r with
          purchases := r.purchases.filter (· != id), purse := .prepaid (min (balance + e.price) 99999999)
          refundCents := min (r.refundCents + back) 99999999, state := if r.state = .lapsed then .active else r.state }) ∨
      (∃ owed ceiling, r.purse = .account owed ceiling ∧ back = e.price ∧
        r' = { r with purchases := r.purchases.filter (· != id), refundCents := min (r.refundCents + e.price) 99999999 })) →
    ∃ u : State, u = { s.withSub i r' with events := s.events.modify id fun e => { e with count := e.count - 1 } } ∧
      exec (.withdrawPurchase body) s = .next ((if r'.state = r.state then u else u.needFor r.tapPort).replied 6
        ⟨.ok, w32 back ++ w8 r'.state.code⟩)) ∧
  (∀ (s : State) (body : List Byte) (i id : Nat) (r : Subscriber) (e : EventRec), s.listening → body.length = 6 →
    s.holds (u32 body 0) i r → id = u16 body 4 → s.events.get? id = some e →
    (id ∈ r.purchases → e.state = .scheduled → e.price = 0 → exec (.withdrawPurchase body) s = .next ({
      s.withSub i { r with purchases := r.purchases.filter (· != id) } with
      events := s.events.modify id fun e => { e with count := e.count - 1 } }.replied 6 ⟨.ok, w32 0 ++ w8 r.state.code⟩)) ∧
    (id ∈ r.purchases → e.state ≠ .scheduled → exec (.withdrawPurchase body) s = .next (s.replied 6 ⟨.badState, []⟩)) ∧
    (id ∉ r.purchases → ∀ w, e.walk = some w → i ∈ w.settled → exec (.withdrawPurchase body) s = .next (s.replied 6 ⟨.badState, []⟩)) ∧
    (id ∉ r.purchases → (∀ w, e.walk = some w → i ∉ w.settled) → exec (.withdrawPurchase body) s = .next (s.replied 6 ⟨.notFound, []⟩))) ∧
  (∀ (s : State) (body : List Byte) (id : Nat) (e : EventRec), s.listening → body.length = 2 → id = u16 body 0 → s.subs.wf = true →
    s.events.get? id = some e → e.state = .scheduled ∨ e.state = .opened →
    ∃ (buyers order : List Nat) (u t : State), buyers = (s.subs.filter fun (p : Nat × Subscriber) => p.2.purchases.contains id).map Prod.fst ∧
      order.Perm buyers ∧
      u = order.foldl (fun u i => refundedFor u id e.price i) { s with events := s.events.modify id fun e => { e with state := .cancelled } } ∧
      t = (if e.state = .opened then u.requestSweep .all else u) ∧
      exec (.cancelEvent body) s = .next ({ t with free := s.free + buyers.length }.replied 2 ⟨.ok, w16 buyers.length⟩))

/-- R37, R144: the Event Table takes a boundary: each event counts its dark minute while OPEN, opens, and ends, with its end walk at index 0 and refund due when its dark
minutes have reached the threshold; each opening and each ending requests a sweep of scope ALL (R62: SweepRequestStartsOrJoins says what a request does). That the dark
minutes are not capped at the window's length, where a Set Clock has put the minute back, is the model's choice (log 49). -/
def Obligations.EventTableTakesABoundary : Prop :=
  ∀ (s : State) (n : Nat) (later : List Nat), s.announced.events = n :: later → s.events.wf = true →
    ∃ t : State, exec .eventTableTakesBoundary s = .next t ∧ t.announced = { s.announced with events := later } ∧
      (∀ id e dark, s.events.get? id = some e →
        dark = (if e.state = .opened ∧ ∃ x, s.slots[e.slot]? = some x ∧ x.dark = true then e.dark + 1 else e.dark) →
        (e.state = .ended ∨ e.state = .cancelled → t.events.get? id = some e) ∧
        (e.state = .scheduled → n < e.openMinute → t.events.get? id = some e) ∧
        (e.state = .scheduled → e.openMinute ≤ n → n < e.closeMinute → t.events.get? id = some { e with state := .opened }) ∧
        (e.state = .opened → n < e.closeMinute → t.events.get? id = some { e with dark := dark }) ∧
        (((e.state = .scheduled ∧ e.openMinute ≤ n) ∨ e.state = .opened) → e.closeMinute ≤ n →
          t.events.get? id = some { e with state := .ended, dark := dark, walk := some ⟨0, decide (s.darkThreshold ≤ dark), []⟩ })) ∧
      (∀ id, s.events.get? id = none → t.events.get? id = none) ∧
      ((∀ id e, s.events.get? id = some e →
          (e.state = .scheduled → n < e.openMinute) ∧ (e.state = .opened → n < e.closeMinute)) →
        t.sweep = s.sweep ∧ t.scopes = s.scopes ∧ t.taps = s.taps) ∧
      (∀ moves : Nat, moves = (s.events.map fun (p : Nat × EventRec) =>
            (if p.2.state = .scheduled ∧ p.2.openMinute ≤ n then 1 else 0)
            + (if ((p.2.state = .scheduled ∧ p.2.openMinute ≤ n) ∨ p.2.state = .opened) ∧ p.2.closeMinute ≤ n then 1 else 0)).sum →
        ∀ u : State, u = (fun u : State => u.requestSweep .all)^[moves] s → t.taps = u.taps ∧ t.sweep = u.sweep ∧ t.scopes = u.scopes) ∧
      t = { s with announced := t.announced, events := t.events, taps := t.taps, sweep := t.sweep, scopes := t.scopes }

/-- R145: the state in which the end walk `w` of an event has made a visit that left the state at `s`, and took the event from a purchase list or not: the walk has moved
on, or, after index 2,047, is over with EVENT_REFUND raised when refund was due. -/
def walkMoved (s : State) (id : Nat) (w : EndWalk) (taken : Bool) : State :=
  if w.next < 2047 then { s with
    events := s.events.modify id fun e => { e with
      walk := some { w with next := w.next + 1, settled := if taken then w.settled ++ [w.next] else w.settled } } }
  else { s with
    events := s.events.modify id fun e => { e with walk := none }
    alarms := if w.refundDue then s.alarms.raise .eventRefund id .occurrence ⟨s.clock.minute, s.clock.second⟩ else s.alarms }

/-- R145, R146: an end walk's visit: the event leaves the purchase list of the record it finds, with a refund when due (a PREPAID record that is LAPSED is restored by an
automatic change), and the walk moves on, or is over after index 2,047 with EVENT_REFUND raised when refund was due. That the walk keeps the index of each
record it has taken the event from is the model's own (log 39). -/
def Obligations.EndWalkVisitsARecord : Prop :=
  ∀ (s : State) (id : Nat) (e : EventRec) (w : EndWalk), s.events.get? id = some e → e.walk = some w → s.subs.wf = true → s.events.wf = true →
    (s.subs.get? w.next = none → exec (.endWalkVisit id) s = .next (walkMoved s id w false)) ∧
    (∀ r r' : Subscriber, s.subs.get? w.next = some r → r' = { r with purchases := r.purchases.filter (· != id) } →
      (id ∉ r.purchases → exec (.endWalkVisit id) s = .next (walkMoved s id w false)) ∧
      (id ∈ r.purchases → w.refundDue = false ∨ e.price = 0 →
        exec (.endWalkVisit id) s = .next (walkMoved (s.withSub w.next r') id w true)) ∧
      (id ∈ r.purchases → w.refundDue = true → e.price ≠ 0 → ∀ owed ceiling, r.purse = .account owed ceiling →
        exec (.endWalkVisit id) s = .next (walkMoved (s.withSub w.next { r' with
          refundCents := min (r.refundCents + e.price) 99999999 }) id w true)) ∧
      (id ∈ r.purchases → w.refundDue = true → e.price ≠ 0 → ∀ balance, r.purse = .prepaid balance →
        ∀ r'' : Subscriber, r'' = { r' with
            purse := .prepaid (min (balance + e.price) 99999999)
            refundCents := min (r.refundCents + (min (balance + e.price) 99999999 - balance)) 99999999 } →
          (r.state ≠ .lapsed → exec (.endWalkVisit id) s = .next (walkMoved (s.withSub w.next r'') id w true)) ∧
          (r.state = .lapsed → ∃ u : State, u = (s.withSub w.next { r'' with state := .active, changed := true }).needFor r.tapPort ∧
            exec (.endWalkVisit id) s = .next (walkMoved { u with
              alarms := s.alarms.raise .creditChange 0 .occurrence ⟨s.clock.minute, s.clock.second⟩ } id w true))))

/-! ## Head-end contacts and alarms (chapter 9) -/

/-- R35, R36: a slot is to be dark: some CARRIER input for it is at the inactive value of its level sense. -/
def darkened (inputs : List Input) (slot : Nat) : Prop :=
  ∃ x ∈ inputs, x.role = .carrier ∧ x.slot = slot ∧ ((x.sense = .levelHigh ∧ x.level = .low) ∨ (x.sense = .levelLow ∧ x.level = .high))

/-- R35: `t` is `s` after the Line-Up Table has worked a slot's dark flag out again: the flag is set while some CARRIER input darkens the slot, and CHANNEL_DARK is raised or ended where it
changes. -/
def darkWorkedOut (s t : State) (n : Nat) : Prop :=
  ∀ (slot : Slot) (dark : Bool), s.slots[n]? = some slot → (dark = true ↔ darkened s.inputs n) →
    t = { s with
      slots := s.slots.set n { slot with dark := dark }
      alarms := if slot.dark = false ∧ dark = true then s.alarms.raise .channelDark n .condition ⟨s.clock.minute, s.clock.second⟩
        else if slot.dark = true ∧ dark = false then s.alarms.endCondition .channelDark n
        else s.alarms }

/-- R157, R158: `t` is `s` after the debounced level of input `n`, whose record was `x`, has taken the pin level: the level, the timer and the stamp, and what the change does by role and
sense. -/
def levelTaken (s t : State) (n : Nat) (x : Input) : Prop :=
  ∀ (now : Stamp) (y : Input), now = ⟨s.clock.minute, s.clock.second⟩ → y = { x with level := x.pin, timer := none, stamp := some now } →
    (x.role = .none → t = { s with inputs := s.inputs.set n y }) ∧
    (x.role = .carrier → x.slot < s.slots.length → darkWorkedOut { s with inputs := s.inputs.set n y } t x.slot) ∧
    (x.role = .plain →
      (((x.sense = .rising ∧ x.pin = .high) ∨ (x.sense = .falling ∧ x.pin = .low) ∨ x.sense = .both) →
        t = { s with inputs := s.inputs.set n y, alarms := s.alarms.raise .contact n .occurrence now }) ∧
      (((x.sense = .rising ∧ x.pin = .low) ∨ (x.sense = .falling ∧ x.pin = .high)) → t = { s with inputs := s.inputs.set n y }) ∧
      (((x.sense = .levelHigh ∧ x.pin = .high) ∨ (x.sense = .levelLow ∧ x.pin = .low)) → t = { s with
        inputs := s.inputs.set n { y with standing := true }, alarms := s.alarms.raise .contact n .condition now }) ∧
      (((x.sense = .levelHigh ∧ x.pin = .low) ∨ (x.sense = .levelLow ∧ x.pin = .high)) → t = { s with
        inputs := s.inputs.set n { y with standing := false }, alarms := s.alarms.endCondition .contact n }))

/-- R159: the CONTACT entry of input `n` after steps 1 and 2: a standing condition is ended; then, for the role PLAIN, an entry of the other type than the new sense gives is removed. -/
def contactEnded (a b : AlarmUnit) (n : Nat) (standing : Bool) (role : Role) (type : AlarmType) : Prop :=
  ∃ a1 : AlarmUnit, a1 = (if standing then a.endCondition .contact n else a) ∧
    (role ≠ .plain ∨ a1.table.get? (alarmKey .contact n) = none → b = a1) ∧
    (role = .plain → ∀ e, a1.table.get? (alarmKey .contact n) = some e →
      (e.type = type → b = a1) ∧ (e.type ≠ type → b = { a1 with table := a1.table.erase (alarmKey .contact n) }))

/-- R160: an input as it is sent (log 9, log 32). -/
def inputOctets (x : Input) : List Byte :=
  w8 (match x.role with | .none => 0 | .plain => 1 | .carrier => 2) ++ w8 x.slot
    ++ w8 (match x.sense with | .rising => 0 | .falling => 1 | .both => 2 | .levelHigh => 3 | .levelLow => 4) ++ w16 x.debounce
    ++ w8 (if x.pin = .high then 0 else 1) ++ w8 (if x.level = .high then 0 else 1) ++ w8 (if x.timer.isSome then 1 else 0)
    ++ (match x.stamp with | none => List.replicate 6 0#8 | some at_ => w8 1 ++ w32 at_.minute ++ w8 at_.second)
    ++ w8 (if x.standing then 1 else 0)

/-- R157, R158, R160: a pin's change starts, restarts or cancels the debounce, or with a debounce of 0 ms is taken at once; the timer's end, and not before, takes the pin level, stamps it and acts on it by role and
sense (a CARRIER input's change works its slot's dark flag out again, R35); and Read Inputs. R35, R36, R159: Configure Input, step by step: a standing condition ends, an entry of the other type is removed,
a slot the input leaves is worked out again, the configuration is stored with a running timer restarted, and the slot it takes is worked out or a standing condition raised. The premise that a CARRIER
input has a level sense is the invariant that StepKeepsTheForm states. Response bytes and the level's code (log 9, log 32) and the debounce of 0 ms (log 21) are the model's choice. -/
def Obligations.ContactInputs : Prop :=
  (∀ (s : State) (n : Nat) (x : Input), s.inputs[n]? = some x → s.Sensed → (x.role = .carrier → x.slot < s.slots.length) →
    (∀ level : Level, level = x.pin → exec (.pinLevelChange n level) s = .next s) ∧
    (∀ level : Level, level ≠ x.pin → level = x.level →
      exec (.pinLevelChange n level) s = .next { s with inputs := s.inputs.set n { x with pin := level, timer := none } }) ∧
    (∀ level : Level, level ≠ x.pin → level ≠ x.level → x.debounce ≠ 0 →
      exec (.pinLevelChange n level) s = .next { s with inputs := s.inputs.set n { x with pin := level, timer := some 0 } }) ∧
    (∀ level : Level, level ≠ x.pin → level ≠ x.level → x.debounce = 0 →
      ∃ t : State, exec (.pinLevelChange n level) s = .next t ∧ levelTaken s t n { x with pin := level }) ∧
    (∀ ms : Nat, x.timer = some ms → x.debounce ≤ ms → ∃ t : State, exec (.debounceTimerExpiry n) s = .next t ∧ levelTaken s t n x) ∧
    ((∀ ms : Nat, x.timer = some ms → ms < x.debounce) → exec (.debounceTimerExpiry n) s = .next s)) ∧
  (∀ s : State, s.listening → exec (.readInputs []) s = .next (s.replied 0 ⟨.ok, s.inputs.flatMap inputOctets⟩)) ∧
  (∀ (s : State) (body : List Byte) (n : Nat) (x y z : Input) (role : Role) (sense : Sense), s.listening → s.Sensed → body.length = 6 →
    n = u8 body 0 → n ≤ 31 → s.inputs[n]? = some x → (x.role = .carrier → x.slot < s.slots.length) → roleOf (u8 body 1) = some role →
    senseOf (u8 body 3) = some sense → u16 body 4 ≤ 2550 → u16 body 4 % 10 = 0 →
    (role = .carrier → u8 body 2 ≤ 95 ∧ u8 body 2 < s.slots.length ∧ (sense = .levelHigh ∨ sense = .levelLow)) →
    y = { x with standing := false, role := if x.role = .carrier then .none else x.role } →
    z = { x with standing := false, role := role, slot := u8 body 2, sense := sense, debounce := u16 body 4, timer := x.timer.map fun _ => 0 } →
    ∃ (a : AlarmUnit) (s1 s2 t : State),
      contactEnded s.alarms a n x.standing role (match sense with | .levelHigh | .levelLow => .condition | _ => .occurrence) ∧
      (x.role ≠ .carrier → s1 = { s with inputs := s.inputs.set n y, alarms := a }) ∧
      (x.role = .carrier → darkWorkedOut { s with inputs := s.inputs.set n y, alarms := a } s1 x.slot) ∧
      s2 = { s1 with inputs := s.inputs.set n z } ∧
      (role = .none ∨ (role = .plain ∧ ¬((sense = .levelHigh ∧ x.level = .high) ∨ (sense = .levelLow ∧ x.level = .low))) → t = s2) ∧
      (role = .carrier → darkWorkedOut s2 t (u8 body 2)) ∧
      (role = .plain → (sense = .levelHigh ∧ x.level = .high) ∨ (sense = .levelLow ∧ x.level = .low) → t = { s2 with
        inputs := s.inputs.set n { z with standing := true }
        alarms := s2.alarms.raise .contact n .condition ⟨s.clock.minute, s.clock.second⟩ }) ∧
      exec (.configureInput body) s = .next (t.replied 6 ⟨.ok, w8 (if x.level = Level.high then 0 else 1)⟩))

/-- R162: an alarm table whose entries have been renumbered 1, 2, 3 and upward in the order of their raise sequence numbers, with the counter at the last number given. -/
def renumbered (a : AlarmUnit) : AlarmUnit :=
  let place (e : Entry) : Entry :=
    { e with seq := 1 + ((a.overflow.toList ++ a.table.map Prod.snd).filter fun (x : Entry) => decide (x.seq < e.seq)).length }
  { a with
    table := a.table.map fun p => (p.1, place p.2), overflow := a.overflow.map place
    seq := (a.overflow.toList ++ a.table.map Prod.snd).length }

/-- R162, R163: the raise of a condition or an occurrence of a kind other than TABLE_OVERFLOW: ignored at level 0; a new entry; a raise refused for room, counted in the reserved place by the first
refusal's entry and by its repeat count, or lost with TABLE_OVERFLOW at level 0; and a raise by the state of the entry that exists. At the top of the sequence counter a raise that takes a new number
is made in the renumbered table. A block's raise carries the Time Base's minute and second. R164: the end of a condition by the state of its entry; at level 0 it finds no entry. An end and a fetch of
the same RAISED condition: after the end the entry is not presentable and the next one is presented, and the fetch first makes it REPORTED and the end then CLEARED. An end and an acknowledge of a
RAISED or REPORTED condition remove the entry in either order. -/
def Obligations.AlarmRaiseAndEnd : Prop :=
  (∀ (a : AlarmUnit) (k : AlarmKind) (subject : Nat) (type : AlarmType) (now : Stamp), k ≠ .tableOverflow →
    (a.level k = 0 → a.raise k subject type now = a) ∧
    (a.level k ≠ 0 → a.seq < 4294967295 → a.table.get? (alarmKey k subject) = none → a.table.length < 128 →
      a.raise k subject type now = { a with
        seq := a.seq + 1, table := a.table.set (alarmKey k subject) ⟨k, subject, type, .raised, 1, a.seq + 1, now, now⟩ }) ∧
    (a.level k ≠ 0 → a.table.get? (alarmKey k subject) = none → 128 ≤ a.table.length →
      (a.level .tableOverflow = 0 → a.raise k subject type now = a) ∧
      (a.level .tableOverflow ≠ 0 → a.seq < 4294967295 → a.overflow = none → a.raise k subject type now = { a with
        seq := a.seq + 1, overflow := some ⟨.tableOverflow, 0, .occurrence, .raised, 1, a.seq + 1, now, now⟩ }) ∧
      (a.level .tableOverflow ≠ 0 → ∀ o, a.overflow = some o → o.kind = .tableOverflow → o.state = .raised → a.raise k subject type now = { a with
        overflow := some { o with repeats := min (o.repeats + 1) 255, last := now } })) ∧
    (∀ e, a.level k ≠ 0 → a.table.get? (alarmKey k subject) = some e → e.kind = k → e.subject = subject →
      (e.state = .raised → a.raise k subject type now = { a with
        table := a.table.set (alarmKey k subject) { e with repeats := min (e.repeats + 1) 255, last := now } }) ∧
      (e.state = .reported ∨ e.state = .acked → a.raise k subject type now = a) ∧
      (e.state = .cleared → a.seq < 4294967295 → a.raise k subject type now = { a with
        seq := a.seq + 1
        table := a.table.set (alarmKey k subject)
          { e with state := .raised, repeats := min (e.repeats + 1) 255, seq := a.seq + 1, last := now } })) ∧
    (a.seq = 4294967295 → a.table.length ≤ 128 → a.level k ≠ 0 →
      ((a.table.get? (alarmKey k subject) = none ∧
          (a.table.length < 128 ∨ (a.level .tableOverflow ≠ 0 ∧ a.overflow = none))) ∨
        ∃ e, a.table.get? (alarmKey k subject) = some e ∧ e.kind = k ∧ e.subject = subject ∧ e.state = .cleared) →
      a.raise k subject type now = (renumbered a).raise k subject type now)) ∧
  (∀ (s : State) (k : AlarmKind) (subject : Nat),
    s.raiseCondition k subject = { s with alarms := s.alarms.raise k subject .condition ⟨s.clock.minute, s.clock.second⟩ } ∧
    s.raiseOccurrence k subject = { s with alarms := s.alarms.raise k subject .occurrence ⟨s.clock.minute, s.clock.second⟩ } ∧
    s.endAlarm k subject = { s with alarms := s.alarms.endCondition k subject }) ∧
  (∀ (a : AlarmUnit) (k : AlarmKind) (subject : Nat),
    (a.find? k subject = none → a.endCondition k subject = a) ∧
    (a.table.wf = true → (∀ e, a.table.get? (alarmKey k subject) = some e → e.kind = k) →
      (a.setLevel k 0).find? k subject = none ∧ (a.setLevel k 0).endCondition k subject = a.setLevel k 0) ∧
    (∀ e, a.find? k subject = some e → e.kind = k → e.subject = subject → ∀ put : EntryState → AlarmUnit,
      (∀ x : EntryState, put x = (if k = .tableOverflow then { a with overflow := some { e with state := x } }
        else { a with table := a.table.set (alarmKey k subject) { e with state := x } })) →
      (e.state = .raised ∨ e.state = .reported → a.endCondition k subject = put .cleared) ∧
      (e.state = .acked → a.endCondition k subject = (if k = .tableOverflow then { a with overflow := none }
        else { a with table := a.table.erase (alarmKey k subject) })) ∧
      (e.state = .cleared → a.endCondition k subject = a) ∧
      (e.type = .condition → e.state = .raised → a.table.wf = true →
        (put .cleared).presentable { e with state := .cleared } = false ∧
        (a.endCondition k subject).firstPresentable = (a.remove k subject).firstPresentable ∧
        a.fetched e = put .reported ∧ (a.fetched e).endCondition k subject = put .cleared) ∧
      (e.type = .condition → e.state = .raised ∨ e.state = .reported → a.table.wf = true →
        (a.acknowledge e).endCondition k subject = (a.endCondition k subject).acknowledge { e with state := .cleared } ∧
        ((a.acknowledge e).endCondition k subject).find? k subject = none)))

/-- R165: an entry is presentable, and comes before another. -/
def shownBefore (a : AlarmUnit) (x y : Entry) : Prop :=
  a.level y.kind < a.level x.kind ∨
    (a.level x.kind = a.level y.kind ∧ (x.kind.rank < y.kind.rank ∨ (x.kind.rank = y.kind.rank ∧ x.seq < y.seq)))

/-- R165: the presentable entries of an alarm unit. -/
def presented (a : AlarmUnit) : List Entry :=
  (a.overflow.toList ++ a.table.map Prod.snd).filter fun (e : Entry) => e.state = .raised ∧ a.mask < a.level e.kind

/-- R165, R166: Fetch Alarm answers NOT_FOUND where ATTN is low; otherwise it presents the entry that comes before every other presentable one, the table's and the reserved place's, by level, rank and
sequence number, with the number of presentable entries that remain: a condition becomes REPORTED, an occurrence is removed, and TABLE_OVERFLOW leaves the reserved place free. The places and widths of
the response bytes (log 9) and the kind's code (log 10) are the model's choice. -/
def Obligations.FetchAlarmPresentsTheFirst : Prop :=
  ∀ s : State, s.listening →
    (s.attn = false → exec (.fetchAlarm []) s = .next (s.replied 0 ⟨.notFound, []⟩)) ∧
    (∀ e : Entry, s.alarms.table.wf = true → e.state = .raised → s.alarms.mask < s.alarms.level e.kind →
      ∀ after : AlarmUnit,
        ((∃ k, s.alarms.table.get? k = some e ∧ k = alarmKey e.kind e.subject ∧ e.kind ≠ .tableOverflow ∧
            (∀ o, s.alarms.overflow = some o → o.state = .raised → s.alarms.mask < s.alarms.level o.kind → shownBefore s.alarms e o) ∧
            (∀ k' e', s.alarms.table.get? k' = some e' → k' ≠ k → e'.state = .raised → s.alarms.mask < s.alarms.level e'.kind →
              shownBefore s.alarms e e') ∧
            after = { s.alarms with table := match e.type with
              | .condition => s.alarms.table.set k { e with state := .reported }
              | .occurrence => s.alarms.table.erase k }) ∨
          (s.alarms.overflow = some e ∧ e.kind = .tableOverflow ∧ e.type = .occurrence ∧
            (∀ k' e', s.alarms.table.get? k' = some e' → e'.state = .raised → s.alarms.mask < s.alarms.level e'.kind →
              shownBefore s.alarms e e') ∧
            after = { s.alarms with overflow := none })) →
        s.attn = true ∧ exec (.fetchAlarm []) s = .next ({ s with alarms := after }.replied 0 ⟨.ok,
          w8 (e.kind.rank - 1) ++ w16 e.subject ++ w8 (match e.type with | .condition => 0 | .occurrence => 1) ++ w8 e.repeats ++ w32 e.seq
          ++ w32 e.first.minute ++ w8 e.first.second ++ w32 e.last.minute ++ w8 e.last.second ++ w8 0
          ++ w8 (presented after).length⟩))

/-- R170: the place of a rank and subject in the order of the table. -/
def alarmKeyOf (rank subject : Nat) : Nat := rank * 65536 + subject

/-- R170: the body of Read Alarm and Next Alarm (log 9, log 10). -/
def entryOctets (a : AlarmUnit) (e : Entry) : List Byte :=
  w8 (e.kind.rank - 1) ++ w16 e.subject ++ w8 (match e.type with | .condition => 0 | .occurrence => 1)
    ++ w8 (match e.state with | .raised => 0 | .reported => 1 | .acked => 2 | .cleared => 3) ++ w8 e.repeats ++ w32 e.seq
    ++ w32 e.first.minute ++ w8 e.first.second ++ w32 e.last.minute ++ w8 e.last.second
    ++ w8 (if e.state = .raised ∧ a.mask < a.level e.kind then 1 else 0)

/-- R167 to R170: Acknowledge Alarm, the three reads, and the level and mask requests, over the table and over TABLE_OVERFLOW in the reserved place, which comes first in the order of Next Alarm and
follows nothing. Response bytes (log 9) and the kind's code (log 10) are the model's choice. -/
def Obligations.AlarmRequests : Prop :=
  (∀ (s : State) (body : List Byte) (k : AlarmKind), s.listening → body.length = 3 → u8 body 0 = k.rank → k.subjectOk (u16 body 1) = true →
    (∀ e : Entry, k ≠ .tableOverflow → s.alarms.table.get? (alarmKey k (u16 body 1)) = some e → e.kind = k → e.subject = u16 body 1 →
      (e.type = .condition → e.state ≠ .cleared → exec (.acknowledgeAlarm body) s = .next ({ s with
        alarms := { s.alarms with table := s.alarms.table.set (alarmKey k (u16 body 1)) { e with state := .acked } } }.replied 3
        ⟨.ok, [1#8, 2#8]⟩)) ∧
      (e.type = .occurrence ∨ e.state = .cleared → exec (.acknowledgeAlarm body) s = .next ({ s with
        alarms := { s.alarms with table := s.alarms.table.erase (alarmKey k (u16 body 1)) } }.replied 3 ⟨.ok, [0#8, 0#8]⟩)) ∧
      exec (.readAlarm body) s = .next (s.replied 3 ⟨.ok, entryOctets s.alarms e⟩)) ∧
    (∀ o : Entry, k = .tableOverflow → s.alarms.overflow = some o → o.kind = .tableOverflow → o.type = .occurrence →
      exec (.acknowledgeAlarm body) s = .next ({ s with alarms := { s.alarms with overflow := none } }.replied 3 ⟨.ok, [0#8, 0#8]⟩) ∧
      exec (.readAlarm body) s = .next (s.replied 3 ⟨.ok, entryOctets s.alarms o⟩)) ∧
    ((k = .tableOverflow → s.alarms.overflow = none) → (k ≠ .tableOverflow → s.alarms.table.get? (alarmKey k (u16 body 1)) = none) →
      exec (.acknowledgeAlarm body) s = .next (s.replied 3 ⟨.notFound, []⟩) ∧
      exec (.readAlarm body) s = .next (s.replied 3 ⟨.notFound, []⟩))) ∧
  (∀ (s : State) (body : List Byte), s.listening → body.length = 3 → u8 body 0 ≤ 15 → s.alarms.table.wf = true →
    (∀ j x, s.alarms.table.get? j = some x → j = alarmKey x.kind x.subject ∧ x.subject ≤ 65535) →
    (∀ o, s.alarms.overflow = some o → o.kind = .tableOverflow ∧ o.subject = 0) →
    (∀ o, u8 body 0 = 0 → s.alarms.overflow = some o → exec (.nextAlarm body) s = .next (s.replied 3 ⟨.ok, entryOctets s.alarms o⟩)) ∧
    ((u8 body 0 = 0 → s.alarms.overflow = none) →
      (∀ (k : Nat) (e : Entry), s.alarms.table.get? k = some e → (u8 body 0 = 0 ∨ alarmKeyOf (u8 body 0) (u16 body 1) < k) →
        (∀ j, j < k → s.alarms.table.get? j ≠ none → u8 body 0 ≠ 0 ∧ j ≤ alarmKeyOf (u8 body 0) (u16 body 1)) →
        exec (.nextAlarm body) s = .next (s.replied 3 ⟨.ok, entryOctets s.alarms e⟩)) ∧
      ((∀ j, s.alarms.table.get? j ≠ none → u8 body 0 ≠ 0 ∧ j ≤ alarmKeyOf (u8 body 0) (u16 body 1)) →
        exec (.nextAlarm body) s = .next (s.replied 3 ⟨.notFound, []⟩)))) ∧
  (∀ s : State, s.listening → exec (.readAlarmUnit []) s = .next (s.replied 0 ⟨.ok,
    w8 s.alarms.table.length ++ w8 (if s.alarms.overflow.isSome then 1 else 0) ++ w8 (presented s.alarms).length ++ w8 s.alarms.mask
    ++ s.alarms.levels.flatMap w8 ++ w32 s.alarms.seq⟩)) ∧
  (∀ (s : State) (body : List Byte) (k : AlarmKind), s.listening → body.length = 2 → u8 body 0 = k.rank →
    (1 ≤ u8 body 1 → u8 body 1 ≤ 7 → exec (.setAlarmLevel body) s = .next ({ s with
      alarms := { s.alarms with levels := s.alarms.levels.set (k.rank - 1) (u8 body 1) } }.replied 2 ⟨.ok, []⟩)) ∧
    (u8 body 1 = 0 → exec (.setAlarmLevel body) s = .next ({ s with
      alarms := { s.alarms with
        levels := s.alarms.levels.set (k.rank - 1) 0
        table := s.alarms.table.filter fun (p : Nat × Entry) => p.2.kind ≠ k
        overflow := if k = AlarmKind.tableOverflow then none else s.alarms.overflow } }.replied 2 ⟨.ok, []⟩))) ∧
  (∀ (s : State) (body : List Byte), s.listening → body.length = 1 → u8 body 0 ≤ 7 →
    exec (.setAlarmMask body) s = .next ({ s with alarms := { s.alarms with mask := u8 body 0 } }.replied 1 ⟨.ok, []⟩))
end

