-- ==== Sys2Proof/Laws/Causes.lean ====
section
/-! SUPPORT. R161: which causes of alarms outlast Clear Store, said once by place instead of by list. -/

namespace Sys2Proof.Machine

/-- The places of a list whose records pass a test, each with a kind. -/
theorem mem_indexed {α : Type} (records : List α) (test : α → Bool) (kind : AlarmKind) (c : AlarmKind × Nat) :
    c ∈ ((records.zipIdx.filter fun p => test p.1).map fun p => (kind, p.2)) ↔
      c.1 = kind ∧ ∃ x, records[c.2]? = some x ∧ test x = true := by
  obtain ⟨a, b⟩ := c
  simp only [List.mem_map, List.mem_filter, Prod.mk.injEq, Prod.exists, List.mk_mem_zipIdx_iff_getElem?]
  constructor
  · rintro ⟨x, n, ⟨h1, h2⟩, rfl, rfl⟩; exact ⟨rfl, x, h1, h2⟩
  · rintro ⟨rfl, x, h1, h2⟩; exact ⟨x, b, ⟨h1, h2⟩, rfl, rfl⟩

theorem nodup_indexed {α : Type} (records : List α) (test : α → Bool) (kind : AlarmKind) :
    ((records.zipIdx.filter fun p => test p.1).map fun p => (kind, p.2)).Nodup := by
  rw [show (fun p : α × Nat => (kind, p.2)) = Prod.mk kind ∘ Prod.snd from rfl, ← List.map_map]
  refine List.Nodup.map (fun _ _ h => (Prod.mk.inj h).2) (List.Nodup.sublist (List.filter_sublist.map _) ?_)
  rw [List.zipIdx_map_snd]
  exact List.nodup_range' ..

/-- R36, R82, R108, R156: a cause outlasts Clear Store where a slot is dark, a leg is in FAULT, the reference is in HOLDOVER or a contact stands. -/
theorem State.mem_outlasting (s : State) (c : AlarmKind × Nat) : c ∈ s.outlasting ↔
    (c.1 = .channelDark ∧ ∃ x, s.slots[c.2]? = some x ∧ x.dark = true) ∨
    (c.1 = .legReturnFault ∧ ∃ l, s.legs[c.2]? = some l ∧ l.fault.isSome = true) ∨
    (c.1 = .refLost ∧ c.2 = 0 ∧ s.clock.ref = .holdover) ∨
    (c.1 = .contact ∧ ∃ x, s.inputs[c.2]? = some x ∧ x.standing = true) := by
  have hr : (c ∈ if s.clock.ref = .holdover then [(AlarmKind.refLost, 0)] else []) ↔
      (c.1 = .refLost ∧ c.2 = 0 ∧ s.clock.ref = .holdover) := by
    obtain ⟨a, b⟩ := c; split_ifs with h <;> simp [h]
  unfold State.outlasting
  rw [List.mem_append, List.mem_append, List.mem_append, mem_indexed s.slots (·.dark), mem_indexed s.legs (·.fault.isSome),
    mem_indexed s.inputs (·.standing), hr]
  simp only [or_assoc]

/-- R161: each cause is raised anew once. -/
theorem State.outlasting_nodup (s : State) : s.outlasting.Nodup := by
  have hr : ∀ c, (c ∈ if s.clock.ref = .holdover then [(AlarmKind.refLost, 0)] else []) → c.1 = .refLost := by
    intro c h; split_ifs at h <;> simp_all
  have hk : ∀ {α : Type} {records : List α} {test : α → Bool} {kind : AlarmKind} {c : AlarmKind × Nat},
      c ∈ ((records.zipIdx.filter fun p => test p.1).map fun p => (kind, p.2)) → c.1 = kind :=
    fun h => ((mem_indexed _ _ _ _).1 h).1
  have hn : (if s.clock.ref = .holdover then [(AlarmKind.refLost, 0)] else []).Nodup := by split_ifs <;> simp
  unfold State.outlasting
  refine ((nodup_indexed s.slots (·.dark) _).append (nodup_indexed s.legs (·.fault.isSome) _) ?_ |>.append hn ?_).append
    (nodup_indexed s.inputs (·.standing) _) ?_
  · intro c h1 h2
    have := (hk (test := fun x : Slot => x.dark) h1).symm.trans (hk (test := fun l : Leg => l.fault.isSome) h2)
    cases this
  · intro c h1 h2
    rcases List.mem_append.1 h1 with h | h
    · cases (hk (test := fun x : Slot => x.dark) h).symm.trans (hr c h2)
    · cases (hk (test := fun l : Leg => l.fault.isSome) h).symm.trans (hr c h2)
  · intro c h1 h2
    have h3 := hk (test := fun x : Input => x.standing) h2
    rcases List.mem_append.1 h1 with h | h
    · rcases List.mem_append.1 h with h | h
      · cases (hk (test := fun x : Slot => x.dark) h).symm.trans h3
      · cases (hk (test := fun l : Leg => l.fault.isSome) h).symm.trans h3
    · cases (hr c h).symm.trans h3

end Sys2Proof.Machine
end

