-- ==== Sys2Proof/Laws/Table.lean ====
section
/-! SUPPORT. What the operations on a table do: what is read after each, and that each keeps the canonical form. -/

namespace Sys2Proof.Machine

variable {α : Type}

/-! ## Reading after a change -/

@[simp] theorem Table.get?_nil (k : Nat) : Table.get? k ([] : Table α) = none := rfl

theorem Table.get?_cons (k i : Nat) (x : α) (t : Table α) :
    Table.get? k ((i, x) :: t) = if i = k then some x else Table.get? k t := rfl

/-- A record is read where it was put, and every other number reads as before. -/
theorem Table.get?_set (t : Table α) (k j : Nat) (x : α) :
    Table.get? j (Table.set k x t) = if k = j then some x else Table.get? j t := by
  induction t with
  | nil => simp [Table.set, Table.get?]
  | cons p t ih =>
    obtain ⟨i, y⟩ := p
    unfold Table.set
    split_ifs with h1 h2 <;> simp only [Table.get?_cons, ih] <;> split_ifs <;> simp_all

@[simp] theorem Table.get?_set_self (t : Table α) (k : Nat) (x : α) : Table.get? k (Table.set k x t) = some x := by
  simp [Table.get?_set]

/-- A removed number reads as empty, and every other number reads as before. -/
theorem Table.get?_erase (t : Table α) (k j : Nat) :
    Table.get? j (Table.erase k t) = if k = j then none else Table.get? j t := by
  induction t with
  | nil => simp [Table.erase, Table.get?]
  | cons p t ih =>
    obtain ⟨i, y⟩ := p
    unfold Table.erase at ih ⊢
    by_cases h : i = k <;> simp_all [Table.get?_cons]; split_ifs <;> simp_all

/-- A changed record reads as changed, and every other number reads as before. -/
theorem Table.get?_modify (t : Table α) (k j : Nat) (f : α → α) :
    Table.get? j (Table.modify k f t) = if k = j then (Table.get? j t).map f else Table.get? j t := by
  induction t with
  | nil => simp [Table.modify, Table.get?]
  | cons p t ih =>
    obtain ⟨i, y⟩ := p
    unfold Table.modify at ih ⊢
    by_cases h : i = k <;> simp_all [Table.get?_cons]; split_ifs <;> simp_all

@[simp] theorem Table.get?_modify_self (t : Table α) (k : Nat) (f : α → α) :
    Table.get? k (Table.modify k f t) = (Table.get? k t).map f := by
  simp [Table.get?_modify]

/-- Every record reads as changed. -/
@[simp] theorem Table.get?_mapAll (t : Table α) (j : Nat) (f : Nat → α → α) :
    Table.get? j (Table.mapAll f t) = (Table.get? j t).map (f j) := by
  induction t with
  | nil => simp [Table.mapAll, Table.get?]
  | cons p t ih =>
    obtain ⟨i, y⟩ := p
    unfold Table.mapAll at ih ⊢
    simp only [List.map_cons, Table.get?_cons, ih]
    split_ifs <;> simp_all

theorem Table.mem_of_get? {t : Table α} {k : Nat} {x : α} (h : Table.get? k t = some x) : (k, x) ∈ t := by
  induction t with
  | nil => simp [Table.get?] at h
  | cons p t ih =>
    obtain ⟨i, y⟩ := p
    rw [Table.get?_cons] at h
    split_ifs at h <;> simp_all

/-! ## The canonical form -/

/-- The form depends on the numbers alone. -/
theorem Table.wf_iff (t : Table α) : t.wf = true ↔ (t.map Prod.fst).Pairwise (· < ·) := by simp [Table.wf]

theorem Table.wf_congr {β : Type} {t : Table α} {u : Table β} (h : t.map Prod.fst = u.map Prod.fst) : t.wf = u.wf := by
  simp [Table.wf, h]

@[simp] theorem Table.modify_keys (t : Table α) (k : Nat) (f : α → α) :
    (Table.modify k f t).map Prod.fst = t.map Prod.fst := by
  simp only [Table.modify, List.map_map]
  apply List.map_congr_left
  intro p _
  simp only [Function.comp]
  split <;> rfl

@[simp] theorem Table.mapAll_keys (t : Table α) (f : Nat → α → α) : (Table.mapAll f t).map Prod.fst = t.map Prod.fst := by
  simp [Table.mapAll, Function.comp_def]

@[simp] theorem Table.modify_length (t : Table α) (k : Nat) (f : α → α) : (Table.modify k f t).length = t.length := by
  simp [Table.modify]

@[simp] theorem Table.mapAll_length (t : Table α) (f : Nat → α → α) : (Table.mapAll f t).length = t.length := by
  simp [Table.mapAll]

theorem Table.wf_modify {t : Table α} (h : t.wf = true) (k : Nat) (f : α → α) : (Table.modify k f t).wf = true := by
  rw [Table.wf_congr (Table.modify_keys t k f)]; exact h

theorem Table.wf_mapAll {t : Table α} (h : t.wf = true) (f : Nat → α → α) : (Table.mapAll f t).wf = true := by
  rw [Table.wf_congr (Table.mapAll_keys t f)]; exact h

theorem Table.wf_filter {t : Table α} (h : t.wf = true) (p : Nat × α → Bool) :
    Table.wf (α := α) (t.filter p) = true := by
  rw [Table.wf_iff] at h ⊢
  exact h.sublist ((List.filter_sublist (l := t) (p := p)).map Prod.fst)

theorem Table.wf_erase {t : Table α} (h : t.wf = true) (k : Nat) : (Table.erase k t).wf = true := Table.wf_filter h _

theorem Table.mem_keys_set {t : Table α} {k j : Nat} {x : α} (h : j ∈ (Table.set k x t).map Prod.fst) :
    j = k ∨ j ∈ t.map Prod.fst := by
  induction t with
  | nil => simpa [Table.set] using h
  | cons p t ih =>
    obtain ⟨i, y⟩ := p
    unfold Table.set at h
    split_ifs at h with h1 h2
    · simpa using h
    · simp only [List.map_cons, List.mem_cons] at h ⊢; tauto
    · simp only [List.map_cons, List.mem_cons] at h ⊢
      rcases h with h | h
      · tauto
      · rcases ih h with h | h <;> tauto

theorem Table.wf_set {t : Table α} (h : t.wf = true) (k : Nat) (x : α) : (Table.set k x t).wf = true := by
  rw [Table.wf_iff] at h ⊢
  induction t with
  | nil => simp [Table.set]
  | cons p t ih =>
    obtain ⟨i, y⟩ := p
    simp only [List.map_cons, List.pairwise_cons] at h
    unfold Table.set
    split_ifs with h1 h2
    · simp only [List.map_cons, List.pairwise_cons, List.mem_cons]
      refine ⟨?_, h.1, h.2⟩
      rintro j (rfl | hj)
      · exact h1
      · exact lt_trans h1 (h.1 j hj)
    · subst h2
      simp only [List.map_cons, List.pairwise_cons]
      exact h
    · simp only [List.map_cons, List.pairwise_cons]
      refine ⟨fun j hj => ?_, ih h.2⟩
      rcases Table.mem_keys_set hj with rfl | hj
      · omega
      · exact h.1 j hj

/-! ## The lowest free number -/

theorem Table.freeFrom_not_mem {t : Table α} (h : t.wf = true) (k : Nat) (low : ∀ j ∈ t.map Prod.fst, k ≤ j) :
    Table.freeFrom k t ∉ t.map Prod.fst ∧ k ≤ Table.freeFrom k t := by
  rw [Table.wf_iff] at h
  induction t generalizing k with
  | nil => simp [Table.freeFrom]
  | cons p t ih =>
    obtain ⟨i, y⟩ := p
    simp only [List.map_cons, List.pairwise_cons, List.mem_cons] at h low
    unfold Table.freeFrom
    have hi := low i (Or.inl rfl)
    split_ifs with h1
    · subst h1
      have := ih h.2 (i + 1) (fun j hj => h.1 j hj)
      simp only [List.map_cons, List.mem_cons, not_or]
      exact ⟨⟨by omega, this.1⟩, by omega⟩
    · simp only [List.map_cons, List.mem_cons, not_or, le_refl, and_true]
      refine ⟨fun e => h1 e.symm, fun hk => ?_⟩
      have := h.1 _ hk
      omega

theorem Table.get?_eq_none_of_not_mem {t : Table α} {k : Nat} (h : k ∉ t.map Prod.fst) : Table.get? k t = none := by
  induction t with
  | nil => rfl
  | cons p t ih =>
    obtain ⟨i, y⟩ := p
    simp only [List.map_cons, List.mem_cons, not_or] at h
    rw [Table.get?_cons, if_neg (fun e => h.1 e.symm), ih h.2]

/-- The lowest free number holds no record, in a table in canonical form. -/
theorem Table.get?_lowestFree {t : Table α} (h : t.wf = true) : Table.get? t.lowestFree t = none :=
  Table.get?_eq_none_of_not_mem (Table.freeFrom_not_mem h 0 (fun _ _ => Nat.zero_le _)).1

/-- In a table in canonical form, the records are those that are read. -/
theorem Table.get?_eq_some_iff {t : Table α} (h : t.wf = true) (k : Nat) (x : α) : Table.get? k t = some x ↔ (k, x) ∈ t := by
  refine ⟨Table.mem_of_get?, fun hm => ?_⟩
  rw [Table.wf_iff] at h
  induction t with
  | nil => simp at hm
  | cons p t ih =>
    obtain ⟨i, y⟩ := p
    simp only [List.map_cons, List.pairwise_cons] at h
    rw [Table.get?_cons]
    rcases List.mem_cons.mp hm with hp | hm
    · simp_all
    · have := h.1 k (List.mem_map.mpr ⟨_, hm, rfl⟩)
      rw [if_neg (by omega), ih h.2 hm]

/-- In a table in canonical form, changing a record is replacing it by what it changes to. -/
theorem Table.modify_eq_const {t : Table α} (h : t.wf = true) {k : Nat} {x : α} (hx : Table.get? k t = some x) (f : α → α) :
    Table.modify k f t = Table.modify k (fun _ => f x) t := by
  unfold Table.modify
  apply List.map_congr_left
  rintro ⟨i, y⟩ hy
  by_cases hi : i = k
  · subst hi
    have := (Table.get?_eq_some_iff h i y).mpr hy
    simp_all
  · simp [hi]

/-- Two changes of one record are one. -/
@[simp] theorem Table.modify_modify (t : Table α) (k : Nat) (f g : α → α) :
    Table.modify k f (Table.modify k g t) = Table.modify k (fun x => f (g x)) t := by
  simp only [Table.modify, List.map_map]
  apply List.map_congr_left
  intro p _
  by_cases hp : p.1 = k <;> simp [hp]

/-- A change that leaves the record as it is leaves the table as it is. -/
theorem Table.modify_id {t : Table α} {k : Nat} {f : α → α} (h : ∀ x, f x = x) : Table.modify k f t = t := by
  simp [Table.modify, h]

theorem Table.get?_ne_none_of_mem {t : Table α} {k : Nat} {x : α} (h : (k, x) ∈ t) : Table.get? k t ≠ none := by
  induction t with
  | nil => simp at h
  | cons p t ih =>
    obtain ⟨j, z⟩ := p
    rw [Table.get?_cons]
    split_ifs with hj
    · simp
    · rcases List.mem_cons.mp h with h | h
      · simp_all
      · exact ih h

/-- A change of a number that holds no record changes nothing. -/
theorem Table.modify_of_none {t : Table α} {k : Nat} (h : Table.get? k t = none) (f : α → α) : Table.modify k f t = t := by
  unfold Table.modify
  conv_rhs => rw [← List.map_id t]
  apply List.map_congr_left
  rintro ⟨i, y⟩ hy
  by_cases hi : i = k
  · subst hi
    exact absurd h (Table.get?_ne_none_of_mem hy)
  · simp [hi]

end Sys2Proof.Machine
end

