-- ==== Sys2Proof/Laws/State.lean ====
section
/-! SUPPORT. For each named update of the state, what every field is after it, as one conjunction that `simp` takes apart into a
rewrite rule for each field: an untouched field is as before; a touched table keeps its numbers, a touched list its length. -/

namespace Sys2Proof.Machine

@[simp] theorem State.updSub_frame (s : State) (i : Nat) (f : Subscriber → Subscriber) :
    (s.updSub i f).port = s.port ∧ (s.updSub i f).mode = s.mode ∧ (s.updSub i f).subs.map Prod.fst = s.subs.map Prod.fst ∧
    (s.updSub i f).accounts = s.accounts ∧ (s.updSub i f).slots = s.slots ∧ (s.updSub i f).tiers = s.tiers ∧
    (s.updSub i f).events = s.events ∧ (s.updSub i f).darkThreshold = s.darkThreshold ∧ (s.updSub i f).taps = s.taps ∧
    (s.updSub i f).urgent = s.urgent ∧ (s.updSub i f).bulk = s.bulk ∧ (s.updSub i f).sweep = s.sweep ∧
    (s.updSub i f).scopes = s.scopes ∧ (s.updSub i f).legs = s.legs ∧ (s.updSub i f).link = s.link ∧
    (s.updSub i f).elements = s.elements ∧ (s.updSub i f).topo = s.topo ∧ (s.updSub i f).clock = s.clock ∧
    (s.updSub i f).announced = s.announced ∧ (s.updSub i f).billing = s.billing ∧ (s.updSub i f).inputs = s.inputs ∧
    (s.updSub i f).alarms = s.alarms ∧ (s.updSub i f).free = s.free ∧ (s.updSub i f).pending = s.pending := by
  simp [State.updSub]

@[simp] theorem State.updSlot_frame (s : State) (i : Nat) (f : Slot → Slot) :
    (s.updSlot i f).port = s.port ∧ (s.updSlot i f).mode = s.mode ∧ (s.updSlot i f).subs = s.subs ∧
    (s.updSlot i f).accounts = s.accounts ∧ (s.updSlot i f).slots.length = s.slots.length ∧ (s.updSlot i f).tiers = s.tiers ∧
    (s.updSlot i f).events = s.events ∧ (s.updSlot i f).darkThreshold = s.darkThreshold ∧ (s.updSlot i f).taps = s.taps ∧
    (s.updSlot i f).urgent = s.urgent ∧ (s.updSlot i f).bulk = s.bulk ∧ (s.updSlot i f).sweep = s.sweep ∧
    (s.updSlot i f).scopes = s.scopes ∧ (s.updSlot i f).legs = s.legs ∧ (s.updSlot i f).link = s.link ∧
    (s.updSlot i f).elements = s.elements ∧ (s.updSlot i f).topo = s.topo ∧ (s.updSlot i f).clock = s.clock ∧
    (s.updSlot i f).announced = s.announced ∧ (s.updSlot i f).billing = s.billing ∧ (s.updSlot i f).inputs = s.inputs ∧
    (s.updSlot i f).alarms = s.alarms ∧ (s.updSlot i f).free = s.free ∧ (s.updSlot i f).pending = s.pending := by
  simp [State.updSlot]

@[simp] theorem State.updTier_frame (s : State) (i : Nat) (f : Tier → Tier) :
    (s.updTier i f).port = s.port ∧ (s.updTier i f).mode = s.mode ∧ (s.updTier i f).subs = s.subs ∧
    (s.updTier i f).accounts = s.accounts ∧ (s.updTier i f).slots = s.slots ∧ (s.updTier i f).tiers.length = s.tiers.length ∧
    (s.updTier i f).events = s.events ∧ (s.updTier i f).darkThreshold = s.darkThreshold ∧ (s.updTier i f).taps = s.taps ∧
    (s.updTier i f).urgent = s.urgent ∧ (s.updTier i f).bulk = s.bulk ∧ (s.updTier i f).sweep = s.sweep ∧
    (s.updTier i f).scopes = s.scopes ∧ (s.updTier i f).legs = s.legs ∧ (s.updTier i f).link = s.link ∧
    (s.updTier i f).elements = s.elements ∧ (s.updTier i f).topo = s.topo ∧ (s.updTier i f).clock = s.clock ∧
    (s.updTier i f).announced = s.announced ∧ (s.updTier i f).billing = s.billing ∧ (s.updTier i f).inputs = s.inputs ∧
    (s.updTier i f).alarms = s.alarms ∧ (s.updTier i f).free = s.free ∧ (s.updTier i f).pending = s.pending := by
  simp [State.updTier]

@[simp] theorem State.updEvent_frame (s : State) (i : Nat) (f : EventRec → EventRec) :
    (s.updEvent i f).port = s.port ∧ (s.updEvent i f).mode = s.mode ∧ (s.updEvent i f).subs = s.subs ∧
    (s.updEvent i f).accounts = s.accounts ∧ (s.updEvent i f).slots = s.slots ∧ (s.updEvent i f).tiers = s.tiers ∧
    (s.updEvent i f).events.map Prod.fst = s.events.map Prod.fst ∧ (s.updEvent i f).darkThreshold = s.darkThreshold ∧
    (s.updEvent i f).taps = s.taps ∧ (s.updEvent i f).urgent = s.urgent ∧ (s.updEvent i f).bulk = s.bulk ∧
    (s.updEvent i f).sweep = s.sweep ∧ (s.updEvent i f).scopes = s.scopes ∧ (s.updEvent i f).legs = s.legs ∧
    (s.updEvent i f).link = s.link ∧ (s.updEvent i f).elements = s.elements ∧ (s.updEvent i f).topo = s.topo ∧
    (s.updEvent i f).clock = s.clock ∧ (s.updEvent i f).announced = s.announced ∧ (s.updEvent i f).billing = s.billing ∧
    (s.updEvent i f).inputs = s.inputs ∧ (s.updEvent i f).alarms = s.alarms ∧ (s.updEvent i f).free = s.free ∧
    (s.updEvent i f).pending = s.pending := by
  simp [State.updEvent]

@[simp] theorem State.updTap_frame (s : State) (i : Nat) (f : Tap → Tap) :
    (s.updTap i f).port = s.port ∧ (s.updTap i f).mode = s.mode ∧ (s.updTap i f).subs = s.subs ∧
    (s.updTap i f).accounts = s.accounts ∧ (s.updTap i f).slots = s.slots ∧ (s.updTap i f).tiers = s.tiers ∧
    (s.updTap i f).events = s.events ∧ (s.updTap i f).darkThreshold = s.darkThreshold ∧
    (s.updTap i f).taps.map Prod.fst = s.taps.map Prod.fst ∧ (s.updTap i f).urgent = s.urgent ∧ (s.updTap i f).bulk = s.bulk ∧
    (s.updTap i f).sweep = s.sweep ∧ (s.updTap i f).scopes = s.scopes ∧ (s.updTap i f).legs = s.legs ∧
    (s.updTap i f).link = s.link ∧ (s.updTap i f).elements = s.elements ∧ (s.updTap i f).topo = s.topo ∧
    (s.updTap i f).clock = s.clock ∧ (s.updTap i f).announced = s.announced ∧ (s.updTap i f).billing = s.billing ∧
    (s.updTap i f).inputs = s.inputs ∧ (s.updTap i f).alarms = s.alarms ∧ (s.updTap i f).free = s.free ∧
    (s.updTap i f).pending = s.pending := by
  simp [State.updTap]

@[simp] theorem State.updLeg_frame (s : State) (i : Nat) (f : Leg → Leg) :
    (s.updLeg i f).port = s.port ∧ (s.updLeg i f).mode = s.mode ∧ (s.updLeg i f).subs = s.subs ∧
    (s.updLeg i f).accounts = s.accounts ∧ (s.updLeg i f).slots = s.slots ∧ (s.updLeg i f).tiers = s.tiers ∧
    (s.updLeg i f).events = s.events ∧ (s.updLeg i f).darkThreshold = s.darkThreshold ∧ (s.updLeg i f).taps = s.taps ∧
    (s.updLeg i f).urgent = s.urgent ∧ (s.updLeg i f).bulk = s.bulk ∧ (s.updLeg i f).sweep = s.sweep ∧
    (s.updLeg i f).scopes = s.scopes ∧ (s.updLeg i f).legs.length = s.legs.length ∧ (s.updLeg i f).link = s.link ∧
    (s.updLeg i f).elements = s.elements ∧ (s.updLeg i f).topo = s.topo ∧ (s.updLeg i f).clock = s.clock ∧
    (s.updLeg i f).announced = s.announced ∧ (s.updLeg i f).billing = s.billing ∧ (s.updLeg i f).inputs = s.inputs ∧
    (s.updLeg i f).alarms = s.alarms ∧ (s.updLeg i f).free = s.free ∧ (s.updLeg i f).pending = s.pending := by
  simp [State.updLeg]

@[simp] theorem State.updElement_frame (s : State) (i : Nat) (f : Element → Element) :
    (s.updElement i f).port = s.port ∧ (s.updElement i f).mode = s.mode ∧ (s.updElement i f).subs = s.subs ∧
    (s.updElement i f).accounts = s.accounts ∧ (s.updElement i f).slots = s.slots ∧ (s.updElement i f).tiers = s.tiers ∧
    (s.updElement i f).events = s.events ∧ (s.updElement i f).darkThreshold = s.darkThreshold ∧
    (s.updElement i f).taps = s.taps ∧ (s.updElement i f).urgent = s.urgent ∧ (s.updElement i f).bulk = s.bulk ∧
    (s.updElement i f).sweep = s.sweep ∧ (s.updElement i f).scopes = s.scopes ∧ (s.updElement i f).legs = s.legs ∧
    (s.updElement i f).link = s.link ∧ (s.updElement i f).elements.map Prod.fst = s.elements.map Prod.fst ∧
    (s.updElement i f).topo = s.topo ∧ (s.updElement i f).clock = s.clock ∧ (s.updElement i f).announced = s.announced ∧
    (s.updElement i f).billing = s.billing ∧ (s.updElement i f).inputs = s.inputs ∧ (s.updElement i f).alarms = s.alarms ∧
    (s.updElement i f).free = s.free ∧ (s.updElement i f).pending = s.pending := by
  simp [State.updElement]

@[simp] theorem State.updInput_frame (s : State) (i : Nat) (f : Input → Input) :
    (s.updInput i f).port = s.port ∧ (s.updInput i f).mode = s.mode ∧ (s.updInput i f).subs = s.subs ∧
    (s.updInput i f).accounts = s.accounts ∧ (s.updInput i f).slots = s.slots ∧ (s.updInput i f).tiers = s.tiers ∧
    (s.updInput i f).events = s.events ∧ (s.updInput i f).darkThreshold = s.darkThreshold ∧ (s.updInput i f).taps = s.taps ∧
    (s.updInput i f).urgent = s.urgent ∧ (s.updInput i f).bulk = s.bulk ∧ (s.updInput i f).sweep = s.sweep ∧
    (s.updInput i f).scopes = s.scopes ∧ (s.updInput i f).legs = s.legs ∧ (s.updInput i f).link = s.link ∧
    (s.updInput i f).elements = s.elements ∧ (s.updInput i f).topo = s.topo ∧ (s.updInput i f).clock = s.clock ∧
    (s.updInput i f).announced = s.announced ∧ (s.updInput i f).billing = s.billing ∧
    (s.updInput i f).inputs.length = s.inputs.length ∧ (s.updInput i f).alarms = s.alarms ∧ (s.updInput i f).free = s.free ∧
    (s.updInput i f).pending = s.pending := by
  simp [State.updInput]

@[simp] theorem State.endIgnoredSelect_frame (s : State) :
    s.endIgnoredSelect.mode = s.mode ∧ s.endIgnoredSelect.subs = s.subs ∧ s.endIgnoredSelect.accounts = s.accounts ∧
    s.endIgnoredSelect.slots = s.slots ∧ s.endIgnoredSelect.tiers = s.tiers ∧ s.endIgnoredSelect.events = s.events ∧
    s.endIgnoredSelect.darkThreshold = s.darkThreshold ∧ s.endIgnoredSelect.taps = s.taps ∧
    s.endIgnoredSelect.urgent = s.urgent ∧ s.endIgnoredSelect.bulk = s.bulk ∧ s.endIgnoredSelect.sweep = s.sweep ∧
    s.endIgnoredSelect.scopes = s.scopes ∧ s.endIgnoredSelect.legs = s.legs ∧ s.endIgnoredSelect.link = s.link ∧
    s.endIgnoredSelect.elements = s.elements ∧ s.endIgnoredSelect.topo = s.topo ∧ s.endIgnoredSelect.clock = s.clock ∧
    s.endIgnoredSelect.announced = s.announced ∧ s.endIgnoredSelect.billing = s.billing ∧ s.endIgnoredSelect.inputs = s.inputs ∧
    s.endIgnoredSelect.alarms = s.alarms ∧ s.endIgnoredSelect.free = s.free ∧ s.endIgnoredSelect.pending = s.pending := by
  simp [State.endIgnoredSelect]

@[simp] theorem State.discardFrame_frame (s : State) (n : Nat) :
    (s.discardFrame n).mode = s.mode ∧ (s.discardFrame n).subs = s.subs ∧ (s.discardFrame n).accounts = s.accounts ∧
    (s.discardFrame n).slots = s.slots ∧ (s.discardFrame n).tiers = s.tiers ∧ (s.discardFrame n).events = s.events ∧
    (s.discardFrame n).darkThreshold = s.darkThreshold ∧ (s.discardFrame n).taps = s.taps ∧
    (s.discardFrame n).urgent = s.urgent ∧ (s.discardFrame n).bulk = s.bulk ∧ (s.discardFrame n).sweep = s.sweep ∧
    (s.discardFrame n).scopes = s.scopes ∧ (s.discardFrame n).legs = s.legs ∧ (s.discardFrame n).link = s.link ∧
    (s.discardFrame n).elements = s.elements ∧ (s.discardFrame n).topo = s.topo ∧ (s.discardFrame n).clock = s.clock ∧
    (s.discardFrame n).announced = s.announced ∧ (s.discardFrame n).billing = s.billing ∧ (s.discardFrame n).inputs = s.inputs ∧
    (s.discardFrame n).alarms = s.alarms ∧ (s.discardFrame n).free = s.free ∧ (s.discardFrame n).pending = s.pending := by
  simp [State.discardFrame]

@[simp] theorem State.acceptFrame_frame (s : State) (n : Nat) :
    (s.acceptFrame n).mode = s.mode ∧ (s.acceptFrame n).subs = s.subs ∧ (s.acceptFrame n).accounts = s.accounts ∧
    (s.acceptFrame n).slots = s.slots ∧ (s.acceptFrame n).tiers = s.tiers ∧ (s.acceptFrame n).events = s.events ∧
    (s.acceptFrame n).darkThreshold = s.darkThreshold ∧ (s.acceptFrame n).taps = s.taps ∧ (s.acceptFrame n).urgent = s.urgent ∧
    (s.acceptFrame n).bulk = s.bulk ∧ (s.acceptFrame n).sweep = s.sweep ∧ (s.acceptFrame n).scopes = s.scopes ∧
    (s.acceptFrame n).legs = s.legs ∧ (s.acceptFrame n).link = s.link ∧ (s.acceptFrame n).elements = s.elements ∧
    (s.acceptFrame n).topo = s.topo ∧ (s.acceptFrame n).clock = s.clock ∧ (s.acceptFrame n).announced = s.announced ∧
    (s.acceptFrame n).billing = s.billing ∧ (s.acceptFrame n).inputs = s.inputs ∧ (s.acceptFrame n).alarms = s.alarms ∧
    (s.acceptFrame n).free = s.free ∧ (s.acceptFrame n).pending = s.pending := by
  simp [State.acceptFrame]

@[simp] theorem State.answer_frame (s : State) (r : Response) :
    (s.answer r).mode = s.mode ∧ (s.answer r).subs = s.subs ∧ (s.answer r).accounts = s.accounts ∧
    (s.answer r).slots = s.slots ∧ (s.answer r).tiers = s.tiers ∧ (s.answer r).events = s.events ∧
    (s.answer r).darkThreshold = s.darkThreshold ∧ (s.answer r).taps = s.taps ∧ (s.answer r).urgent = s.urgent ∧
    (s.answer r).bulk = s.bulk ∧ (s.answer r).sweep = s.sweep ∧ (s.answer r).scopes = s.scopes ∧ (s.answer r).legs = s.legs ∧
    (s.answer r).link = s.link ∧ (s.answer r).elements = s.elements ∧ (s.answer r).topo = s.topo ∧
    (s.answer r).clock = s.clock ∧ (s.answer r).announced = s.announced ∧ (s.answer r).billing = s.billing ∧
    (s.answer r).inputs = s.inputs ∧ (s.answer r).alarms = s.alarms ∧ (s.answer r).free = s.free ∧
    (s.answer r).pending = s.pending := by
  simp [State.answer]

@[simp] theorem State.raiseCondition_frame (s : State) (k : AlarmKind) (subject : Nat) :
    (s.raiseCondition k subject).port = s.port ∧ (s.raiseCondition k subject).mode = s.mode ∧
    (s.raiseCondition k subject).subs = s.subs ∧ (s.raiseCondition k subject).accounts = s.accounts ∧
    (s.raiseCondition k subject).slots = s.slots ∧ (s.raiseCondition k subject).tiers = s.tiers ∧
    (s.raiseCondition k subject).events = s.events ∧ (s.raiseCondition k subject).darkThreshold = s.darkThreshold ∧
    (s.raiseCondition k subject).taps = s.taps ∧ (s.raiseCondition k subject).urgent = s.urgent ∧
    (s.raiseCondition k subject).bulk = s.bulk ∧ (s.raiseCondition k subject).sweep = s.sweep ∧
    (s.raiseCondition k subject).scopes = s.scopes ∧ (s.raiseCondition k subject).legs = s.legs ∧
    (s.raiseCondition k subject).link = s.link ∧ (s.raiseCondition k subject).elements = s.elements ∧
    (s.raiseCondition k subject).topo = s.topo ∧ (s.raiseCondition k subject).clock = s.clock ∧
    (s.raiseCondition k subject).announced = s.announced ∧ (s.raiseCondition k subject).billing = s.billing ∧
    (s.raiseCondition k subject).inputs = s.inputs ∧ (s.raiseCondition k subject).free = s.free ∧
    (s.raiseCondition k subject).pending = s.pending := by
  simp [State.raiseCondition]

@[simp] theorem State.raiseOccurrence_frame (s : State) (k : AlarmKind) (subject : Nat) :
    (s.raiseOccurrence k subject).port = s.port ∧ (s.raiseOccurrence k subject).mode = s.mode ∧
    (s.raiseOccurrence k subject).subs = s.subs ∧ (s.raiseOccurrence k subject).accounts = s.accounts ∧
    (s.raiseOccurrence k subject).slots = s.slots ∧ (s.raiseOccurrence k subject).tiers = s.tiers ∧
    (s.raiseOccurrence k subject).events = s.events ∧ (s.raiseOccurrence k subject).darkThreshold = s.darkThreshold ∧
    (s.raiseOccurrence k subject).taps = s.taps ∧ (s.raiseOccurrence k subject).urgent = s.urgent ∧
    (s.raiseOccurrence k subject).bulk = s.bulk ∧ (s.raiseOccurrence k subject).sweep = s.sweep ∧
    (s.raiseOccurrence k subject).scopes = s.scopes ∧ (s.raiseOccurrence k subject).legs = s.legs ∧
    (s.raiseOccurrence k subject).link = s.link ∧ (s.raiseOccurrence k subject).elements = s.elements ∧
    (s.raiseOccurrence k subject).topo = s.topo ∧ (s.raiseOccurrence k subject).clock = s.clock ∧
    (s.raiseOccurrence k subject).announced = s.announced ∧ (s.raiseOccurrence k subject).billing = s.billing ∧
    (s.raiseOccurrence k subject).inputs = s.inputs ∧ (s.raiseOccurrence k subject).free = s.free ∧
    (s.raiseOccurrence k subject).pending = s.pending := by
  simp [State.raiseOccurrence]

@[simp] theorem State.endAlarm_frame (s : State) (k : AlarmKind) (subject : Nat) :
    (s.endAlarm k subject).port = s.port ∧ (s.endAlarm k subject).mode = s.mode ∧ (s.endAlarm k subject).subs = s.subs ∧
    (s.endAlarm k subject).accounts = s.accounts ∧ (s.endAlarm k subject).slots = s.slots ∧
    (s.endAlarm k subject).tiers = s.tiers ∧ (s.endAlarm k subject).events = s.events ∧
    (s.endAlarm k subject).darkThreshold = s.darkThreshold ∧ (s.endAlarm k subject).taps = s.taps ∧
    (s.endAlarm k subject).urgent = s.urgent ∧ (s.endAlarm k subject).bulk = s.bulk ∧ (s.endAlarm k subject).sweep = s.sweep ∧
    (s.endAlarm k subject).scopes = s.scopes ∧ (s.endAlarm k subject).legs = s.legs ∧ (s.endAlarm k subject).link = s.link ∧
    (s.endAlarm k subject).elements = s.elements ∧ (s.endAlarm k subject).topo = s.topo ∧
    (s.endAlarm k subject).clock = s.clock ∧ (s.endAlarm k subject).announced = s.announced ∧
    (s.endAlarm k subject).billing = s.billing ∧ (s.endAlarm k subject).inputs = s.inputs ∧
    (s.endAlarm k subject).free = s.free ∧ (s.endAlarm k subject).pending = s.pending := by
  simp [State.endAlarm]

@[simp] theorem State.leaveQueues_frame (s : State) (tap : Nat) :
    (s.leaveQueues tap).port = s.port ∧ (s.leaveQueues tap).mode = s.mode ∧ (s.leaveQueues tap).subs = s.subs ∧
    (s.leaveQueues tap).accounts = s.accounts ∧ (s.leaveQueues tap).slots = s.slots ∧ (s.leaveQueues tap).tiers = s.tiers ∧
    (s.leaveQueues tap).events = s.events ∧ (s.leaveQueues tap).darkThreshold = s.darkThreshold ∧
    (s.leaveQueues tap).taps = s.taps ∧ (s.leaveQueues tap).sweep = s.sweep ∧ (s.leaveQueues tap).scopes = s.scopes ∧
    (s.leaveQueues tap).legs = s.legs ∧ (s.leaveQueues tap).link = s.link ∧ (s.leaveQueues tap).elements = s.elements ∧
    (s.leaveQueues tap).topo = s.topo ∧ (s.leaveQueues tap).clock = s.clock ∧ (s.leaveQueues tap).announced = s.announced ∧
    (s.leaveQueues tap).billing = s.billing ∧ (s.leaveQueues tap).inputs = s.inputs ∧ (s.leaveQueues tap).alarms = s.alarms ∧
    (s.leaveQueues tap).free = s.free ∧ (s.leaveQueues tap).pending = s.pending := by
  simp [State.leaveQueues]

@[simp] theorem State.clearUnder_frame (s : State) (es : List Nat) :
    (s.clearUnder es).port = s.port ∧ (s.clearUnder es).mode = s.mode ∧ (s.clearUnder es).subs = s.subs ∧
    (s.clearUnder es).accounts = s.accounts ∧ (s.clearUnder es).slots = s.slots ∧ (s.clearUnder es).tiers = s.tiers ∧
    (s.clearUnder es).events = s.events ∧ (s.clearUnder es).darkThreshold = s.darkThreshold ∧
    (s.clearUnder es).taps.map Prod.fst = s.taps.map Prod.fst ∧ (s.clearUnder es).urgent = s.urgent ∧
    (s.clearUnder es).bulk = s.bulk ∧ (s.clearUnder es).sweep = s.sweep ∧ (s.clearUnder es).scopes = s.scopes ∧
    (s.clearUnder es).legs = s.legs ∧ (s.clearUnder es).link = s.link ∧ (s.clearUnder es).elements = s.elements ∧
    (s.clearUnder es).topo = s.topo ∧ (s.clearUnder es).clock = s.clock ∧ (s.clearUnder es).announced = s.announced ∧
    (s.clearUnder es).billing = s.billing ∧ (s.clearUnder es).inputs = s.inputs ∧ (s.clearUnder es).alarms = s.alarms ∧
    (s.clearUnder es).free = s.free ∧ (s.clearUnder es).pending = s.pending := by
  simp [State.clearUnder]

@[simp] theorem State.verifyChildren_frame (s : State) (e : Nat) :
    (s.verifyChildren e).port = s.port ∧ (s.verifyChildren e).mode = s.mode ∧ (s.verifyChildren e).subs = s.subs ∧
    (s.verifyChildren e).accounts = s.accounts ∧ (s.verifyChildren e).slots = s.slots ∧ (s.verifyChildren e).tiers = s.tiers ∧
    (s.verifyChildren e).events = s.events ∧ (s.verifyChildren e).darkThreshold = s.darkThreshold ∧
    (s.verifyChildren e).taps = s.taps ∧ (s.verifyChildren e).urgent = s.urgent ∧ (s.verifyChildren e).bulk = s.bulk ∧
    (s.verifyChildren e).sweep = s.sweep ∧ (s.verifyChildren e).scopes = s.scopes ∧ (s.verifyChildren e).legs = s.legs ∧
    (s.verifyChildren e).link = s.link ∧ (s.verifyChildren e).elements.map Prod.fst = s.elements.map Prod.fst ∧
    (s.verifyChildren e).topo = s.topo ∧ (s.verifyChildren e).clock = s.clock ∧ (s.verifyChildren e).announced = s.announced ∧
    (s.verifyChildren e).billing = s.billing ∧ (s.verifyChildren e).inputs = s.inputs ∧ (s.verifyChildren e).alarms = s.alarms ∧
    (s.verifyChildren e).free = s.free ∧ (s.verifyChildren e).pending = s.pending := by
  simp [State.verifyChildren]

@[simp] theorem State.countLeg_frame (s : State) (leg : Nat) (f : LegCounters → LegCounters) :
    (s.countLeg leg f).port = s.port ∧ (s.countLeg leg f).mode = s.mode ∧ (s.countLeg leg f).subs = s.subs ∧
    (s.countLeg leg f).accounts = s.accounts ∧ (s.countLeg leg f).slots = s.slots ∧ (s.countLeg leg f).tiers = s.tiers ∧
    (s.countLeg leg f).events = s.events ∧ (s.countLeg leg f).darkThreshold = s.darkThreshold ∧
    (s.countLeg leg f).taps = s.taps ∧ (s.countLeg leg f).urgent = s.urgent ∧ (s.countLeg leg f).bulk = s.bulk ∧
    (s.countLeg leg f).sweep = s.sweep ∧ (s.countLeg leg f).scopes = s.scopes ∧ (s.countLeg leg f).legs.length = s.legs.length ∧
    (s.countLeg leg f).link = s.link ∧ (s.countLeg leg f).elements = s.elements ∧ (s.countLeg leg f).topo = s.topo ∧
    (s.countLeg leg f).clock = s.clock ∧ (s.countLeg leg f).announced = s.announced ∧ (s.countLeg leg f).billing = s.billing ∧
    (s.countLeg leg f).inputs = s.inputs ∧ (s.countLeg leg f).alarms = s.alarms ∧ (s.countLeg leg f).free = s.free ∧
    (s.countLeg leg f).pending = s.pending := by
  simp [State.countLeg]

@[simp] theorem State.transmit_frame (s : State) (leg : Nat) (w : Work) (address : Nat) (kind : Byte) (body : List Byte) :
    (s.transmit leg w address kind body).port = s.port ∧ (s.transmit leg w address kind body).mode = s.mode ∧
    (s.transmit leg w address kind body).subs = s.subs ∧ (s.transmit leg w address kind body).accounts = s.accounts ∧
    (s.transmit leg w address kind body).slots = s.slots ∧ (s.transmit leg w address kind body).tiers = s.tiers ∧
    (s.transmit leg w address kind body).events = s.events ∧
    (s.transmit leg w address kind body).darkThreshold = s.darkThreshold ∧ (s.transmit leg w address kind body).taps = s.taps ∧
    (s.transmit leg w address kind body).urgent = s.urgent ∧ (s.transmit leg w address kind body).bulk = s.bulk ∧
    (s.transmit leg w address kind body).sweep = s.sweep ∧ (s.transmit leg w address kind body).scopes = s.scopes ∧
    (s.transmit leg w address kind body).legs.length = s.legs.length ∧ (s.transmit leg w address kind body).link = s.link ∧
    (s.transmit leg w address kind body).elements = s.elements ∧ (s.transmit leg w address kind body).topo = s.topo ∧
    (s.transmit leg w address kind body).clock = s.clock ∧ (s.transmit leg w address kind body).announced = s.announced ∧
    (s.transmit leg w address kind body).billing = s.billing ∧ (s.transmit leg w address kind body).inputs = s.inputs ∧
    (s.transmit leg w address kind body).alarms = s.alarms ∧ (s.transmit leg w address kind body).free = s.free ∧
    (s.transmit leg w address kind body).pending = s.pending := by
  simp [State.transmit]

@[simp] theorem State.endTransaction_frame (s : State) (leg : Nat) :
    (s.endTransaction leg).port = s.port ∧ (s.endTransaction leg).mode = s.mode ∧ (s.endTransaction leg).subs = s.subs ∧
    (s.endTransaction leg).accounts = s.accounts ∧ (s.endTransaction leg).slots = s.slots ∧
    (s.endTransaction leg).tiers = s.tiers ∧ (s.endTransaction leg).events = s.events ∧
    (s.endTransaction leg).darkThreshold = s.darkThreshold ∧ (s.endTransaction leg).taps = s.taps ∧
    (s.endTransaction leg).urgent = s.urgent ∧ (s.endTransaction leg).bulk = s.bulk ∧ (s.endTransaction leg).sweep = s.sweep ∧
    (s.endTransaction leg).scopes = s.scopes ∧ (s.endTransaction leg).legs.length = s.legs.length ∧
    (s.endTransaction leg).link = s.link ∧ (s.endTransaction leg).elements = s.elements ∧ (s.endTransaction leg).topo = s.topo ∧
    (s.endTransaction leg).clock = s.clock ∧ (s.endTransaction leg).announced = s.announced ∧
    (s.endTransaction leg).billing = s.billing ∧ (s.endTransaction leg).inputs = s.inputs ∧
    (s.endTransaction leg).alarms = s.alarms ∧ (s.endTransaction leg).free = s.free ∧
    (s.endTransaction leg).pending = s.pending := by
  simp [State.endTransaction]

@[simp] theorem State.startCycle_frame (s : State) (leg : Nat) :
    (s.startCycle leg).port = s.port ∧ (s.startCycle leg).mode = s.mode ∧ (s.startCycle leg).subs = s.subs ∧
    (s.startCycle leg).accounts = s.accounts ∧ (s.startCycle leg).slots = s.slots ∧ (s.startCycle leg).tiers = s.tiers ∧
    (s.startCycle leg).events = s.events ∧ (s.startCycle leg).darkThreshold = s.darkThreshold ∧
    (s.startCycle leg).taps = s.taps ∧ (s.startCycle leg).urgent = s.urgent ∧ (s.startCycle leg).bulk = s.bulk ∧
    (s.startCycle leg).sweep = s.sweep ∧ (s.startCycle leg).scopes = s.scopes ∧ (s.startCycle leg).legs.length = s.legs.length ∧
    (s.startCycle leg).link = s.link ∧ (s.startCycle leg).elements.map Prod.fst = s.elements.map Prod.fst ∧
    (s.startCycle leg).topo = s.topo ∧ (s.startCycle leg).clock = s.clock ∧ (s.startCycle leg).announced = s.announced ∧
    (s.startCycle leg).billing = s.billing ∧ (s.startCycle leg).inputs = s.inputs ∧ (s.startCycle leg).alarms = s.alarms ∧
    (s.startCycle leg).free = s.free ∧ (s.startCycle leg).pending = s.pending := by
  simp [State.startCycle]

@[simp] theorem State.startPass_frame (s : State) (b : HeldBoundary) :
    (s.startPass b).port = s.port ∧ (s.startPass b).mode = s.mode ∧ (s.startPass b).subs = s.subs ∧
    (s.startPass b).accounts = s.accounts ∧ (s.startPass b).slots = s.slots ∧ (s.startPass b).tiers = s.tiers ∧
    (s.startPass b).events = s.events ∧ (s.startPass b).darkThreshold = s.darkThreshold ∧ (s.startPass b).taps = s.taps ∧
    (s.startPass b).urgent = s.urgent ∧ (s.startPass b).bulk = s.bulk ∧ (s.startPass b).sweep = s.sweep ∧
    (s.startPass b).scopes = s.scopes ∧ (s.startPass b).legs = s.legs ∧ (s.startPass b).link = s.link ∧
    (s.startPass b).elements = s.elements ∧ (s.startPass b).topo = s.topo ∧ (s.startPass b).clock = s.clock ∧
    (s.startPass b).announced = s.announced ∧ (s.startPass b).inputs = s.inputs ∧ (s.startPass b).alarms = s.alarms ∧
    (s.startPass b).free = s.free ∧ (s.startPass b).pending = s.pending := by
  simp [State.startPass]

@[simp] theorem State.announce_frame (s : State) (n : Nat) :
    (s.announce n).port = s.port ∧ (s.announce n).mode = s.mode ∧ (s.announce n).subs = s.subs ∧
    (s.announce n).accounts = s.accounts ∧ (s.announce n).slots = s.slots ∧ (s.announce n).tiers = s.tiers ∧
    (s.announce n).events = s.events ∧ (s.announce n).darkThreshold = s.darkThreshold ∧ (s.announce n).taps = s.taps ∧
    (s.announce n).urgent = s.urgent ∧ (s.announce n).bulk = s.bulk ∧ (s.announce n).sweep = s.sweep ∧
    (s.announce n).scopes = s.scopes ∧ (s.announce n).legs = s.legs ∧ (s.announce n).link = s.link ∧
    (s.announce n).elements = s.elements ∧ (s.announce n).topo = s.topo ∧ (s.announce n).clock = s.clock ∧
    (s.announce n).billing = s.billing ∧ (s.announce n).inputs = s.inputs ∧ (s.announce n).alarms = s.alarms ∧
    (s.announce n).free = s.free ∧ (s.announce n).pending = s.pending := by
  simp [State.announce]

@[simp] theorem State.afterSweep_frame (s : State) :
    s.afterSweep.port = s.port ∧ s.afterSweep.mode = s.mode ∧ s.afterSweep.subs = s.subs ∧ s.afterSweep.accounts = s.accounts ∧
    s.afterSweep.slots = s.slots ∧ s.afterSweep.tiers = s.tiers ∧ s.afterSweep.events = s.events ∧
    s.afterSweep.darkThreshold = s.darkThreshold ∧ s.afterSweep.taps = s.taps ∧ s.afterSweep.urgent = s.urgent ∧
    s.afterSweep.bulk = s.bulk ∧ s.afterSweep.legs = s.legs ∧ s.afterSweep.link = s.link ∧ s.afterSweep.elements = s.elements ∧
    s.afterSweep.topo = s.topo ∧ s.afterSweep.clock = s.clock ∧ s.afterSweep.announced = s.announced ∧
    s.afterSweep.billing = s.billing ∧ s.afterSweep.inputs = s.inputs ∧ s.afterSweep.alarms = s.alarms ∧
    s.afterSweep.free = s.free ∧ s.afterSweep.pending = s.pending := by
  simp [State.afterSweep]

@[simp] theorem State.bindPort_frame (s : State) (i : Nat) (p : PortRef) :
    (s.bindPort i p).port = s.port ∧ (s.bindPort i p).mode = s.mode ∧ (s.bindPort i p).subs.map Prod.fst = s.subs.map Prod.fst ∧
    (s.bindPort i p).accounts = s.accounts ∧ (s.bindPort i p).slots = s.slots ∧ (s.bindPort i p).tiers = s.tiers ∧
    (s.bindPort i p).events = s.events ∧ (s.bindPort i p).darkThreshold = s.darkThreshold ∧
    (s.bindPort i p).taps.map Prod.fst = s.taps.map Prod.fst ∧ (s.bindPort i p).urgent = s.urgent ∧
    (s.bindPort i p).bulk = s.bulk ∧ (s.bindPort i p).sweep = s.sweep ∧ (s.bindPort i p).scopes = s.scopes ∧
    (s.bindPort i p).legs = s.legs ∧ (s.bindPort i p).link = s.link ∧ (s.bindPort i p).elements = s.elements ∧
    (s.bindPort i p).topo = s.topo ∧ (s.bindPort i p).clock = s.clock ∧ (s.bindPort i p).announced = s.announced ∧
    (s.bindPort i p).billing = s.billing ∧ (s.bindPort i p).inputs = s.inputs ∧ (s.bindPort i p).alarms = s.alarms ∧
    (s.bindPort i p).free = s.free ∧ (s.bindPort i p).pending = s.pending := by
  simp [State.bindPort]

@[simp] theorem State.releasePort_frame (s : State) (i : Nat) (p : PortRef) :
    (s.releasePort i p).port = s.port ∧ (s.releasePort i p).mode = s.mode ∧
    (s.releasePort i p).subs.map Prod.fst = s.subs.map Prod.fst ∧ (s.releasePort i p).accounts = s.accounts ∧
    (s.releasePort i p).slots = s.slots ∧ (s.releasePort i p).tiers = s.tiers ∧ (s.releasePort i p).events = s.events ∧
    (s.releasePort i p).darkThreshold = s.darkThreshold ∧ (s.releasePort i p).taps.map Prod.fst = s.taps.map Prod.fst ∧
    (s.releasePort i p).urgent = s.urgent ∧ (s.releasePort i p).bulk = s.bulk ∧ (s.releasePort i p).sweep = s.sweep ∧
    (s.releasePort i p).scopes = s.scopes ∧ (s.releasePort i p).legs = s.legs ∧ (s.releasePort i p).link = s.link ∧
    (s.releasePort i p).elements = s.elements ∧ (s.releasePort i p).topo = s.topo ∧ (s.releasePort i p).clock = s.clock ∧
    (s.releasePort i p).announced = s.announced ∧ (s.releasePort i p).billing = s.billing ∧
    (s.releasePort i p).inputs = s.inputs ∧ (s.releasePort i p).alarms = s.alarms ∧ (s.releasePort i p).free = s.free ∧
    (s.releasePort i p).pending = s.pending := by
  simp [State.releasePort]

@[simp] theorem EndWalk.visited_fields (w : EndWalk) (named : Bool) :
    (w.visited named).next = w.next + 1 ∧ (w.visited named).refundDue = w.refundDue ∧
    (w.visited named).settled = (if named then w.settled ++ [w.next] else w.settled) := ⟨rfl, rfl, rfl⟩

/-- What a retired index takes from an event is in its walk alone. -/
@[simp] theorem EventRec.forget_fields (e : EventRec) (i : Nat) :
    (e.forget i).slot = e.slot ∧ (e.forget i).openMinute = e.openMinute ∧ (e.forget i).closeMinute = e.closeMinute ∧
    (e.forget i).price = e.price ∧ (e.forget i).cutoff = e.cutoff ∧ (e.forget i).state = e.state ∧ (e.forget i).dark = e.dark ∧
    (e.forget i).count = e.count ∧ (e.forget i).walk.isSome = e.walk.isSome := by simp [EventRec.forget]

/-- R153: no walk has settled a record that it has forgotten. -/
@[simp] theorem EventRec.settled_forget (e : EventRec) (i : Nat) : (e.forget i).settled i = false := by
  cases h : e.walk <;> simp [EventRec.settled, EventRec.forget, h]

end Sys2Proof.Machine
end

