-- ==== Sys2Proof/Laws/Frames.lean ====
section
/-! SUPPORT. For each shared operation, what it leaves as it was: one conjunction that `simp` takes apart into a rewrite rule for
each field. A touched table keeps its numbers, a touched list its length. -/

namespace Sys2Proof.Machine

/-- What every step of a fold keeps, the fold keeps. -/
theorem foldl_keep {α β σ : Type} (g : σ → β) {f : σ → α → σ} (h : ∀ s x, g (f s x) = g s) (l : List α) (s : σ) :
    g (l.foldl f s) = g s := by
  induction l generalizing s with
  | nil => rfl
  | cons x l ih => rw [List.foldl_cons, ih, h]

@[simp] theorem State.followCondition_frame (s : State) (k : AlarmKind) (subject : Nat) (a b : Bool) :
    (s.followCondition k subject a b).port = s.port ∧ (s.followCondition k subject a b).mode = s.mode ∧
    (s.followCondition k subject a b).subs = s.subs ∧ (s.followCondition k subject a b).accounts = s.accounts ∧
    (s.followCondition k subject a b).slots = s.slots ∧ (s.followCondition k subject a b).tiers = s.tiers ∧
    (s.followCondition k subject a b).events = s.events ∧ (s.followCondition k subject a b).darkThreshold = s.darkThreshold ∧
    (s.followCondition k subject a b).taps = s.taps ∧ (s.followCondition k subject a b).urgent = s.urgent ∧
    (s.followCondition k subject a b).bulk = s.bulk ∧ (s.followCondition k subject a b).sweep = s.sweep ∧
    (s.followCondition k subject a b).scopes = s.scopes ∧ (s.followCondition k subject a b).legs = s.legs ∧
    (s.followCondition k subject a b).link = s.link ∧ (s.followCondition k subject a b).elements = s.elements ∧
    (s.followCondition k subject a b).topo = s.topo ∧ (s.followCondition k subject a b).clock = s.clock ∧
    (s.followCondition k subject a b).announced = s.announced ∧ (s.followCondition k subject a b).billing = s.billing ∧
    (s.followCondition k subject a b).inputs = s.inputs ∧ (s.followCondition k subject a b).free = s.free ∧
    (s.followCondition k subject a b).pending = s.pending := by
  unfold State.followCondition
  (repeat' split) <;> simp

@[simp] theorem State.joinTail_frame (s : State) (q : QueueKind) (tap : Nat) :
    (s.joinTail q tap).port = s.port ∧ (s.joinTail q tap).mode = s.mode ∧ (s.joinTail q tap).subs = s.subs ∧
    (s.joinTail q tap).accounts = s.accounts ∧ (s.joinTail q tap).slots = s.slots ∧ (s.joinTail q tap).tiers = s.tiers ∧
    (s.joinTail q tap).events = s.events ∧ (s.joinTail q tap).darkThreshold = s.darkThreshold ∧
    (s.joinTail q tap).taps = s.taps ∧ (s.joinTail q tap).sweep = s.sweep ∧ (s.joinTail q tap).scopes = s.scopes ∧
    (s.joinTail q tap).legs = s.legs ∧ (s.joinTail q tap).link = s.link ∧ (s.joinTail q tap).elements = s.elements ∧
    (s.joinTail q tap).topo = s.topo ∧ (s.joinTail q tap).clock = s.clock ∧ (s.joinTail q tap).announced = s.announced ∧
    (s.joinTail q tap).billing = s.billing ∧ (s.joinTail q tap).inputs = s.inputs ∧ (s.joinTail q tap).alarms = s.alarms ∧
    (s.joinTail q tap).free = s.free ∧ (s.joinTail q tap).pending = s.pending := by
  unfold State.joinTail
  (repeat' split) <;> simp

@[simp] theorem State.joinHead_frame (s : State) (q : QueueKind) (tap : Nat) :
    (s.joinHead q tap).port = s.port ∧ (s.joinHead q tap).mode = s.mode ∧ (s.joinHead q tap).subs = s.subs ∧
    (s.joinHead q tap).accounts = s.accounts ∧ (s.joinHead q tap).slots = s.slots ∧ (s.joinHead q tap).tiers = s.tiers ∧
    (s.joinHead q tap).events = s.events ∧ (s.joinHead q tap).darkThreshold = s.darkThreshold ∧
    (s.joinHead q tap).taps = s.taps ∧ (s.joinHead q tap).sweep = s.sweep ∧ (s.joinHead q tap).scopes = s.scopes ∧
    (s.joinHead q tap).legs = s.legs ∧ (s.joinHead q tap).link = s.link ∧ (s.joinHead q tap).elements = s.elements ∧
    (s.joinHead q tap).topo = s.topo ∧ (s.joinHead q tap).clock = s.clock ∧ (s.joinHead q tap).announced = s.announced ∧
    (s.joinHead q tap).billing = s.billing ∧ (s.joinHead q tap).inputs = s.inputs ∧ (s.joinHead q tap).alarms = s.alarms ∧
    (s.joinHead q tap).free = s.free ∧ (s.joinHead q tap).pending = s.pending := by
  unfold State.joinHead
  (repeat' split) <;> simp

@[simp] theorem State.need_frame (s : State) (q : QueueKind) (tap : Nat) :
    (s.need q tap).port = s.port ∧ (s.need q tap).mode = s.mode ∧ (s.need q tap).subs = s.subs ∧
    (s.need q tap).accounts = s.accounts ∧ (s.need q tap).slots = s.slots ∧ (s.need q tap).tiers = s.tiers ∧
    (s.need q tap).events = s.events ∧ (s.need q tap).darkThreshold = s.darkThreshold ∧
    (s.need q tap).taps.map Prod.fst = s.taps.map Prod.fst ∧ (s.need q tap).sweep = s.sweep ∧ (s.need q tap).scopes = s.scopes ∧
    (s.need q tap).legs = s.legs ∧ (s.need q tap).link = s.link ∧ (s.need q tap).elements = s.elements ∧
    (s.need q tap).topo = s.topo ∧ (s.need q tap).clock = s.clock ∧ (s.need q tap).announced = s.announced ∧
    (s.need q tap).billing = s.billing ∧ (s.need q tap).inputs = s.inputs ∧ (s.need q tap).alarms = s.alarms ∧
    (s.need q tap).free = s.free ∧ (s.need q tap).pending = s.pending := by
  unfold State.need
  (repeat' split) <;> simp

@[simp] theorem State.needFor_frame (s : State) (p : Option PortRef) :
    (s.needFor p).port = s.port ∧ (s.needFor p).mode = s.mode ∧ (s.needFor p).subs = s.subs ∧
    (s.needFor p).accounts = s.accounts ∧ (s.needFor p).slots = s.slots ∧ (s.needFor p).tiers = s.tiers ∧
    (s.needFor p).events = s.events ∧ (s.needFor p).darkThreshold = s.darkThreshold ∧
    (s.needFor p).taps.map Prod.fst = s.taps.map Prod.fst ∧ (s.needFor p).sweep = s.sweep ∧ (s.needFor p).scopes = s.scopes ∧
    (s.needFor p).legs = s.legs ∧ (s.needFor p).link = s.link ∧ (s.needFor p).elements = s.elements ∧
    (s.needFor p).topo = s.topo ∧ (s.needFor p).clock = s.clock ∧ (s.needFor p).announced = s.announced ∧
    (s.needFor p).billing = s.billing ∧ (s.needFor p).inputs = s.inputs ∧ (s.needFor p).alarms = s.alarms ∧
    (s.needFor p).free = s.free ∧ (s.needFor p).pending = s.pending := by
  unfold State.needFor
  (repeat' split) <;> simp

@[simp] theorem State.mergeScope_frame (s : State) (r : SweepRequest) :
    (s.mergeScope r).port = s.port ∧ (s.mergeScope r).mode = s.mode ∧ (s.mergeScope r).subs = s.subs ∧
    (s.mergeScope r).accounts = s.accounts ∧ (s.mergeScope r).slots = s.slots ∧ (s.mergeScope r).tiers = s.tiers ∧
    (s.mergeScope r).events = s.events ∧ (s.mergeScope r).darkThreshold = s.darkThreshold ∧
    (s.mergeScope r).taps.map Prod.fst = s.taps.map Prod.fst ∧ (s.mergeScope r).urgent = s.urgent ∧
    (s.mergeScope r).bulk = s.bulk ∧ (s.mergeScope r).sweep = s.sweep ∧ (s.mergeScope r).legs = s.legs ∧
    (s.mergeScope r).link = s.link ∧ (s.mergeScope r).elements = s.elements ∧ (s.mergeScope r).topo = s.topo ∧
    (s.mergeScope r).clock = s.clock ∧ (s.mergeScope r).announced = s.announced ∧ (s.mergeScope r).billing = s.billing ∧
    (s.mergeScope r).inputs = s.inputs ∧ (s.mergeScope r).alarms = s.alarms ∧ (s.mergeScope r).free = s.free ∧
    (s.mergeScope r).pending = s.pending := by
  unfold State.mergeScope
  (repeat' split) <;> simp

@[simp] theorem State.requestSweep_frame (s : State) (r : SweepRequest) :
    (s.requestSweep r).port = s.port ∧ (s.requestSweep r).mode = s.mode ∧ (s.requestSweep r).subs = s.subs ∧
    (s.requestSweep r).accounts = s.accounts ∧ (s.requestSweep r).slots = s.slots ∧ (s.requestSweep r).tiers = s.tiers ∧
    (s.requestSweep r).events = s.events ∧ (s.requestSweep r).darkThreshold = s.darkThreshold ∧
    (s.requestSweep r).taps.map Prod.fst = s.taps.map Prod.fst ∧ (s.requestSweep r).urgent = s.urgent ∧
    (s.requestSweep r).bulk = s.bulk ∧ (s.requestSweep r).legs = s.legs ∧ (s.requestSweep r).link = s.link ∧
    (s.requestSweep r).elements = s.elements ∧ (s.requestSweep r).topo = s.topo ∧ (s.requestSweep r).clock = s.clock ∧
    (s.requestSweep r).announced = s.announced ∧ (s.requestSweep r).billing = s.billing ∧ (s.requestSweep r).inputs = s.inputs ∧
    (s.requestSweep r).alarms = s.alarms ∧ (s.requestSweep r).free = s.free ∧ (s.requestSweep r).pending = s.pending := by
  unfold State.requestSweep
  (repeat' split) <;> simp

@[simp] theorem State.requestChange_frame (s : State) (i : Nat) (r : Subscriber) (x : SubState) :
    (s.requestChange i r x).port = s.port ∧ (s.requestChange i r x).mode = s.mode ∧
    (s.requestChange i r x).subs.map Prod.fst = s.subs.map Prod.fst ∧ (s.requestChange i r x).accounts = s.accounts ∧
    (s.requestChange i r x).slots = s.slots ∧ (s.requestChange i r x).tiers = s.tiers ∧
    (s.requestChange i r x).events = s.events ∧ (s.requestChange i r x).darkThreshold = s.darkThreshold ∧
    (s.requestChange i r x).taps.map Prod.fst = s.taps.map Prod.fst ∧ (s.requestChange i r x).sweep = s.sweep ∧
    (s.requestChange i r x).scopes = s.scopes ∧ (s.requestChange i r x).legs = s.legs ∧ (s.requestChange i r x).link = s.link ∧
    (s.requestChange i r x).elements = s.elements ∧ (s.requestChange i r x).topo = s.topo ∧
    (s.requestChange i r x).clock = s.clock ∧ (s.requestChange i r x).announced = s.announced ∧
    (s.requestChange i r x).billing = s.billing ∧ (s.requestChange i r x).inputs = s.inputs ∧
    (s.requestChange i r x).alarms = s.alarms ∧ (s.requestChange i r x).free = s.free ∧
    (s.requestChange i r x).pending = s.pending := by
  unfold State.requestChange
  (repeat' split) <;> simp

@[simp] theorem State.automaticChange_frame (s : State) (i : Nat) (r : Subscriber) (x : SubState) :
    (s.automaticChange i r x).port = s.port ∧ (s.automaticChange i r x).mode = s.mode ∧
    (s.automaticChange i r x).subs.map Prod.fst = s.subs.map Prod.fst ∧ (s.automaticChange i r x).accounts = s.accounts ∧
    (s.automaticChange i r x).slots = s.slots ∧ (s.automaticChange i r x).tiers = s.tiers ∧
    (s.automaticChange i r x).events = s.events ∧ (s.automaticChange i r x).darkThreshold = s.darkThreshold ∧
    (s.automaticChange i r x).taps.map Prod.fst = s.taps.map Prod.fst ∧ (s.automaticChange i r x).sweep = s.sweep ∧
    (s.automaticChange i r x).scopes = s.scopes ∧ (s.automaticChange i r x).legs = s.legs ∧
    (s.automaticChange i r x).link = s.link ∧ (s.automaticChange i r x).elements = s.elements ∧
    (s.automaticChange i r x).topo = s.topo ∧ (s.automaticChange i r x).clock = s.clock ∧
    (s.automaticChange i r x).announced = s.announced ∧ (s.automaticChange i r x).billing = s.billing ∧
    (s.automaticChange i r x).inputs = s.inputs ∧ (s.automaticChange i r x).free = s.free ∧
    (s.automaticChange i r x).pending = s.pending := by
  simp [State.automaticChange]

@[simp] theorem State.endDowns_frame (s : State) (es : List Nat) :
    (s.endDowns es).port = s.port ∧ (s.endDowns es).mode = s.mode ∧ (s.endDowns es).subs = s.subs ∧
    (s.endDowns es).accounts = s.accounts ∧ (s.endDowns es).slots = s.slots ∧ (s.endDowns es).tiers = s.tiers ∧
    (s.endDowns es).events = s.events ∧ (s.endDowns es).darkThreshold = s.darkThreshold ∧ (s.endDowns es).taps = s.taps ∧
    (s.endDowns es).urgent = s.urgent ∧ (s.endDowns es).bulk = s.bulk ∧ (s.endDowns es).sweep = s.sweep ∧
    (s.endDowns es).scopes = s.scopes ∧ (s.endDowns es).legs = s.legs ∧ (s.endDowns es).link = s.link ∧
    (s.endDowns es).elements = s.elements ∧ (s.endDowns es).topo = s.topo ∧ (s.endDowns es).clock = s.clock ∧
    (s.endDowns es).announced = s.announced ∧ (s.endDowns es).billing = s.billing ∧ (s.endDowns es).inputs = s.inputs ∧
    (s.endDowns es).free = s.free ∧ (s.endDowns es).pending = s.pending := by
  unfold State.endDowns
  and_intros
  · simpa using foldl_keep State.port (by simp) _ _
  · simpa using foldl_keep State.mode (by simp) _ _
  · simpa using foldl_keep State.subs (by simp) _ _
  · simpa using foldl_keep State.accounts (by simp) _ _
  · simpa using foldl_keep State.slots (by simp) _ _
  · simpa using foldl_keep State.tiers (by simp) _ _
  · simpa using foldl_keep State.events (by simp) _ _
  · simpa using foldl_keep State.darkThreshold (by simp) _ _
  · simpa using foldl_keep State.taps (by simp) _ _
  · simpa using foldl_keep State.urgent (by simp) _ _
  · simpa using foldl_keep State.bulk (by simp) _ _
  · simpa using foldl_keep State.sweep (by simp) _ _
  · simpa using foldl_keep State.scopes (by simp) _ _
  · simpa using foldl_keep State.legs (by simp) _ _
  · simpa using foldl_keep State.link (by simp) _ _
  · simpa using foldl_keep State.elements (by simp) _ _
  · simpa using foldl_keep State.topo (by simp) _ _
  · simpa using foldl_keep State.clock (by simp) _ _
  · simpa using foldl_keep State.announced (by simp) _ _
  · simpa using foldl_keep State.billing (by simp) _ _
  · simpa using foldl_keep State.inputs (by simp) _ _
  · simpa using foldl_keep State.free (by simp) _ _
  · simpa using foldl_keep State.pending (by simp) _ _

@[simp] theorem State.goDown_frame (s : State) (e : Nat) :
    (s.goDown e).port = s.port ∧ (s.goDown e).mode = s.mode ∧ (s.goDown e).subs = s.subs ∧ (s.goDown e).accounts = s.accounts ∧
    (s.goDown e).slots = s.slots ∧ (s.goDown e).tiers = s.tiers ∧ (s.goDown e).events = s.events ∧
    (s.goDown e).darkThreshold = s.darkThreshold ∧ (s.goDown e).taps = s.taps ∧ (s.goDown e).urgent = s.urgent ∧
    (s.goDown e).bulk = s.bulk ∧ (s.goDown e).sweep = s.sweep ∧ (s.goDown e).scopes = s.scopes ∧ (s.goDown e).legs = s.legs ∧
    (s.goDown e).link = s.link ∧ (s.goDown e).elements.map Prod.fst = s.elements.map Prod.fst ∧ (s.goDown e).topo = s.topo ∧
    (s.goDown e).clock = s.clock ∧ (s.goDown e).announced = s.announced ∧ (s.goDown e).billing = s.billing ∧
    (s.goDown e).inputs = s.inputs ∧ (s.goDown e).free = s.free ∧ (s.goDown e).pending = s.pending := by
  unfold State.goDown
  (repeat' split) <;> simp

@[simp] theorem State.applyMiss_frame (s : State) (e : Nat) :
    (s.applyMiss e).port = s.port ∧ (s.applyMiss e).mode = s.mode ∧ (s.applyMiss e).subs = s.subs ∧
    (s.applyMiss e).accounts = s.accounts ∧ (s.applyMiss e).slots = s.slots ∧ (s.applyMiss e).tiers = s.tiers ∧
    (s.applyMiss e).events = s.events ∧ (s.applyMiss e).darkThreshold = s.darkThreshold ∧ (s.applyMiss e).taps = s.taps ∧
    (s.applyMiss e).urgent = s.urgent ∧ (s.applyMiss e).bulk = s.bulk ∧ (s.applyMiss e).sweep = s.sweep ∧
    (s.applyMiss e).scopes = s.scopes ∧ (s.applyMiss e).legs = s.legs ∧ (s.applyMiss e).link = s.link ∧
    (s.applyMiss e).elements.map Prod.fst = s.elements.map Prod.fst ∧ (s.applyMiss e).topo = s.topo ∧
    (s.applyMiss e).clock = s.clock ∧ (s.applyMiss e).announced = s.announced ∧ (s.applyMiss e).billing = s.billing ∧
    (s.applyMiss e).inputs = s.inputs ∧ (s.applyMiss e).free = s.free ∧ (s.applyMiss e).pending = s.pending := by
  unfold State.applyMiss
  (repeat' split) <;> simp

@[simp] theorem State.updateConditions_frame (s : State) (e : Nat) (x : Option Supply) (l : Int) :
    (s.updateConditions e x l).port = s.port ∧ (s.updateConditions e x l).mode = s.mode ∧
    (s.updateConditions e x l).subs = s.subs ∧ (s.updateConditions e x l).accounts = s.accounts ∧
    (s.updateConditions e x l).slots = s.slots ∧ (s.updateConditions e x l).tiers = s.tiers ∧
    (s.updateConditions e x l).events = s.events ∧ (s.updateConditions e x l).darkThreshold = s.darkThreshold ∧
    (s.updateConditions e x l).taps = s.taps ∧ (s.updateConditions e x l).urgent = s.urgent ∧
    (s.updateConditions e x l).bulk = s.bulk ∧ (s.updateConditions e x l).sweep = s.sweep ∧
    (s.updateConditions e x l).scopes = s.scopes ∧ (s.updateConditions e x l).legs = s.legs ∧
    (s.updateConditions e x l).link = s.link ∧ (s.updateConditions e x l).elements.map Prod.fst = s.elements.map Prod.fst ∧
    (s.updateConditions e x l).topo = s.topo ∧ (s.updateConditions e x l).clock = s.clock ∧
    (s.updateConditions e x l).announced = s.announced ∧ (s.updateConditions e x l).billing = s.billing ∧
    (s.updateConditions e x l).inputs = s.inputs ∧ (s.updateConditions e x l).free = s.free ∧
    (s.updateConditions e x l).pending = s.pending := by
  unfold State.updateConditions
  (repeat' split) <;> simp

@[simp] theorem State.applyReply_frame (s : State) (e : Nat) (x : Option Supply) (l : Int) :
    (s.applyReply e x l).port = s.port ∧ (s.applyReply e x l).mode = s.mode ∧ (s.applyReply e x l).subs = s.subs ∧
    (s.applyReply e x l).accounts = s.accounts ∧ (s.applyReply e x l).slots = s.slots ∧ (s.applyReply e x l).tiers = s.tiers ∧
    (s.applyReply e x l).events = s.events ∧ (s.applyReply e x l).darkThreshold = s.darkThreshold ∧
    (s.applyReply e x l).taps.map Prod.fst = s.taps.map Prod.fst ∧ (s.applyReply e x l).urgent = s.urgent ∧
    (s.applyReply e x l).bulk = s.bulk ∧ (s.applyReply e x l).legs = s.legs ∧ (s.applyReply e x l).link = s.link ∧
    (s.applyReply e x l).elements.map Prod.fst = s.elements.map Prod.fst ∧ (s.applyReply e x l).topo = s.topo ∧
    (s.applyReply e x l).clock = s.clock ∧ (s.applyReply e x l).announced = s.announced ∧
    (s.applyReply e x l).billing = s.billing ∧ (s.applyReply e x l).inputs = s.inputs ∧ (s.applyReply e x l).free = s.free ∧
    (s.applyReply e x l).pending = s.pending := by
  unfold State.applyReply
  (repeat' split) <;> simp

@[simp] theorem State.takeTap_frame (s : State) (leg tap : Nat) (q : QueueKind) :
    (s.takeTap leg tap q).port = s.port ∧ (s.takeTap leg tap q).mode = s.mode ∧ (s.takeTap leg tap q).subs = s.subs ∧
    (s.takeTap leg tap q).accounts = s.accounts ∧ (s.takeTap leg tap q).slots = s.slots ∧
    (s.takeTap leg tap q).tiers = s.tiers ∧ (s.takeTap leg tap q).events = s.events ∧
    (s.takeTap leg tap q).darkThreshold = s.darkThreshold ∧ (s.takeTap leg tap q).taps.map Prod.fst = s.taps.map Prod.fst ∧
    (s.takeTap leg tap q).sweep = s.sweep ∧ (s.takeTap leg tap q).scopes = s.scopes ∧
    (s.takeTap leg tap q).legs.length = s.legs.length ∧ (s.takeTap leg tap q).link = s.link ∧
    (s.takeTap leg tap q).elements = s.elements ∧ (s.takeTap leg tap q).topo = s.topo ∧ (s.takeTap leg tap q).clock = s.clock ∧
    (s.takeTap leg tap q).announced = s.announced ∧ (s.takeTap leg tap q).billing = s.billing ∧
    (s.takeTap leg tap q).inputs = s.inputs ∧ (s.takeTap leg tap q).alarms = s.alarms ∧ (s.takeTap leg tap q).free = s.free ∧
    (s.takeTap leg tap q).pending = s.pending := by
  unfold State.takeTap
  (repeat' split) <;> simp

@[simp] theorem State.takePoll_frame (s : State) (leg e : Nat) (b : Bool) :
    (s.takePoll leg e b).port = s.port ∧ (s.takePoll leg e b).mode = s.mode ∧ (s.takePoll leg e b).subs = s.subs ∧
    (s.takePoll leg e b).accounts = s.accounts ∧ (s.takePoll leg e b).slots = s.slots ∧ (s.takePoll leg e b).tiers = s.tiers ∧
    (s.takePoll leg e b).events = s.events ∧ (s.takePoll leg e b).darkThreshold = s.darkThreshold ∧
    (s.takePoll leg e b).taps = s.taps ∧ (s.takePoll leg e b).urgent = s.urgent ∧ (s.takePoll leg e b).bulk = s.bulk ∧
    (s.takePoll leg e b).sweep = s.sweep ∧ (s.takePoll leg e b).scopes = s.scopes ∧
    (s.takePoll leg e b).legs.length = s.legs.length ∧ (s.takePoll leg e b).link = s.link ∧
    (s.takePoll leg e b).elements.map Prod.fst = s.elements.map Prod.fst ∧ (s.takePoll leg e b).topo = s.topo ∧
    (s.takePoll leg e b).clock = s.clock ∧ (s.takePoll leg e b).announced = s.announced ∧
    (s.takePoll leg e b).billing = s.billing ∧ (s.takePoll leg e b).inputs = s.inputs ∧ (s.takePoll leg e b).alarms = s.alarms ∧
    (s.takePoll leg e b).free = s.free ∧ (s.takePoll leg e b).pending = s.pending := by
  unfold State.takePoll
  (repeat' split) <;> simp

@[simp] theorem State.takeWork_frame (s : State) (leg : Nat) :
    (s.takeWork leg).port = s.port ∧ (s.takeWork leg).mode = s.mode ∧ (s.takeWork leg).subs = s.subs ∧
    (s.takeWork leg).accounts = s.accounts ∧ (s.takeWork leg).slots = s.slots ∧ (s.takeWork leg).tiers = s.tiers ∧
    (s.takeWork leg).events = s.events ∧ (s.takeWork leg).darkThreshold = s.darkThreshold ∧
    (s.takeWork leg).taps.map Prod.fst = s.taps.map Prod.fst ∧ (s.takeWork leg).sweep = s.sweep ∧
    (s.takeWork leg).scopes = s.scopes ∧ (s.takeWork leg).legs.length = s.legs.length ∧ (s.takeWork leg).link = s.link ∧
    (s.takeWork leg).elements.map Prod.fst = s.elements.map Prod.fst ∧ (s.takeWork leg).topo = s.topo ∧
    (s.takeWork leg).clock = s.clock ∧ (s.takeWork leg).announced = s.announced ∧ (s.takeWork leg).billing = s.billing ∧
    (s.takeWork leg).inputs = s.inputs ∧ (s.takeWork leg).alarms = s.alarms ∧ (s.takeWork leg).free = s.free ∧
    (s.takeWork leg).pending = s.pending := by
  unfold State.takeWork
  (repeat' split) <;> simp

@[simp] theorem State.returnHeld_frame (s : State) (tap : Nat) (q : QueueKind) :
    (s.returnHeld tap q).port = s.port ∧ (s.returnHeld tap q).mode = s.mode ∧ (s.returnHeld tap q).subs = s.subs ∧
    (s.returnHeld tap q).accounts = s.accounts ∧ (s.returnHeld tap q).slots = s.slots ∧ (s.returnHeld tap q).tiers = s.tiers ∧
    (s.returnHeld tap q).events = s.events ∧ (s.returnHeld tap q).darkThreshold = s.darkThreshold ∧
    (s.returnHeld tap q).taps.map Prod.fst = s.taps.map Prod.fst ∧ (s.returnHeld tap q).sweep = s.sweep ∧
    (s.returnHeld tap q).scopes = s.scopes ∧ (s.returnHeld tap q).legs = s.legs ∧ (s.returnHeld tap q).link = s.link ∧
    (s.returnHeld tap q).elements = s.elements ∧ (s.returnHeld tap q).topo = s.topo ∧ (s.returnHeld tap q).clock = s.clock ∧
    (s.returnHeld tap q).announced = s.announced ∧ (s.returnHeld tap q).billing = s.billing ∧
    (s.returnHeld tap q).inputs = s.inputs ∧ (s.returnHeld tap q).alarms = s.alarms ∧ (s.returnHeld tap q).free = s.free ∧
    (s.returnHeld tap q).pending = s.pending := by
  simp [State.returnHeld]

@[simp] theorem State.goSilent_frame (s : State) (tap : Nat) :
    (s.goSilent tap).port = s.port ∧ (s.goSilent tap).mode = s.mode ∧ (s.goSilent tap).subs = s.subs ∧
    (s.goSilent tap).accounts = s.accounts ∧ (s.goSilent tap).slots = s.slots ∧ (s.goSilent tap).tiers = s.tiers ∧
    (s.goSilent tap).events = s.events ∧ (s.goSilent tap).darkThreshold = s.darkThreshold ∧
    (s.goSilent tap).taps.map Prod.fst = s.taps.map Prod.fst ∧ (s.goSilent tap).urgent = s.urgent ∧
    (s.goSilent tap).bulk = s.bulk ∧ (s.goSilent tap).sweep = s.sweep ∧ (s.goSilent tap).scopes = s.scopes ∧
    (s.goSilent tap).legs = s.legs ∧ (s.goSilent tap).link = s.link ∧ (s.goSilent tap).elements = s.elements ∧
    (s.goSilent tap).topo = s.topo ∧ (s.goSilent tap).clock = s.clock ∧ (s.goSilent tap).announced = s.announced ∧
    (s.goSilent tap).billing = s.billing ∧ (s.goSilent tap).inputs = s.inputs ∧ (s.goSilent tap).free = s.free ∧
    (s.goSilent tap).pending = s.pending := by
  simp [State.goSilent]

@[simp] theorem State.tapTryFailed_frame (s : State) (leg tap tries : Nat) (q : QueueKind) (address : Nat) :
    (s.tapTryFailed leg tap tries q address).port = s.port ∧ (s.tapTryFailed leg tap tries q address).mode = s.mode ∧
    (s.tapTryFailed leg tap tries q address).subs = s.subs ∧ (s.tapTryFailed leg tap tries q address).accounts = s.accounts ∧
    (s.tapTryFailed leg tap tries q address).slots = s.slots ∧ (s.tapTryFailed leg tap tries q address).tiers = s.tiers ∧
    (s.tapTryFailed leg tap tries q address).events = s.events ∧
    (s.tapTryFailed leg tap tries q address).darkThreshold = s.darkThreshold ∧
    (s.tapTryFailed leg tap tries q address).taps.map Prod.fst = s.taps.map Prod.fst ∧
    (s.tapTryFailed leg tap tries q address).sweep = s.sweep ∧ (s.tapTryFailed leg tap tries q address).scopes = s.scopes ∧
    (s.tapTryFailed leg tap tries q address).legs.length = s.legs.length ∧
    (s.tapTryFailed leg tap tries q address).link = s.link ∧ (s.tapTryFailed leg tap tries q address).elements = s.elements ∧
    (s.tapTryFailed leg tap tries q address).topo = s.topo ∧ (s.tapTryFailed leg tap tries q address).clock = s.clock ∧
    (s.tapTryFailed leg tap tries q address).announced = s.announced ∧
    (s.tapTryFailed leg tap tries q address).billing = s.billing ∧ (s.tapTryFailed leg tap tries q address).inputs = s.inputs ∧
    (s.tapTryFailed leg tap tries q address).free = s.free ∧ (s.tapTryFailed leg tap tries q address).pending = s.pending := by
  unfold State.tapTryFailed
  (repeat' split) <;> simp

@[simp] theorem State.tapReply_frame (s : State) (leg tap : Nat) (q : QueueKind) (built : List Setting) (a l : Byte) :
    (s.tapReply leg tap q built a l).port = s.port ∧ (s.tapReply leg tap q built a l).mode = s.mode ∧
    (s.tapReply leg tap q built a l).subs = s.subs ∧ (s.tapReply leg tap q built a l).accounts = s.accounts ∧
    (s.tapReply leg tap q built a l).slots = s.slots ∧ (s.tapReply leg tap q built a l).tiers = s.tiers ∧
    (s.tapReply leg tap q built a l).events = s.events ∧ (s.tapReply leg tap q built a l).darkThreshold = s.darkThreshold ∧
    (s.tapReply leg tap q built a l).taps.map Prod.fst = s.taps.map Prod.fst ∧
    (s.tapReply leg tap q built a l).sweep = s.sweep ∧ (s.tapReply leg tap q built a l).scopes = s.scopes ∧
    (s.tapReply leg tap q built a l).legs.length = s.legs.length ∧ (s.tapReply leg tap q built a l).link = s.link ∧
    (s.tapReply leg tap q built a l).elements = s.elements ∧ (s.tapReply leg tap q built a l).topo = s.topo ∧
    (s.tapReply leg tap q built a l).clock = s.clock ∧ (s.tapReply leg tap q built a l).announced = s.announced ∧
    (s.tapReply leg tap q built a l).billing = s.billing ∧ (s.tapReply leg tap q built a l).inputs = s.inputs ∧
    (s.tapReply leg tap q built a l).free = s.free ∧ (s.tapReply leg tap q built a l).pending = s.pending := by
  unfold State.tapReply
  (repeat' split) <;> simp

@[simp] theorem State.tryFailed_frame (s : State) (leg : Nat) (t : Transaction) :
    (s.tryFailed leg t).port = s.port ∧ (s.tryFailed leg t).mode = s.mode ∧ (s.tryFailed leg t).subs = s.subs ∧
    (s.tryFailed leg t).accounts = s.accounts ∧ (s.tryFailed leg t).slots = s.slots ∧ (s.tryFailed leg t).tiers = s.tiers ∧
    (s.tryFailed leg t).events = s.events ∧ (s.tryFailed leg t).darkThreshold = s.darkThreshold ∧
    (s.tryFailed leg t).taps.map Prod.fst = s.taps.map Prod.fst ∧ (s.tryFailed leg t).sweep = s.sweep ∧
    (s.tryFailed leg t).scopes = s.scopes ∧ (s.tryFailed leg t).legs.length = s.legs.length ∧
    (s.tryFailed leg t).link = s.link ∧ (s.tryFailed leg t).elements.map Prod.fst = s.elements.map Prod.fst ∧
    (s.tryFailed leg t).topo = s.topo ∧ (s.tryFailed leg t).clock = s.clock ∧ (s.tryFailed leg t).announced = s.announced ∧
    (s.tryFailed leg t).billing = s.billing ∧ (s.tryFailed leg t).inputs = s.inputs ∧ (s.tryFailed leg t).free = s.free ∧
    (s.tryFailed leg t).pending = s.pending := by
  unfold State.tryFailed
  (repeat' split) <;> simp

@[simp] theorem State.tryAnswered_frame (s : State) (leg : Nat) (t : Transaction) (a b : Byte) :
    (s.tryAnswered leg t a b).port = s.port ∧ (s.tryAnswered leg t a b).mode = s.mode ∧
    (s.tryAnswered leg t a b).subs = s.subs ∧ (s.tryAnswered leg t a b).accounts = s.accounts ∧
    (s.tryAnswered leg t a b).slots = s.slots ∧ (s.tryAnswered leg t a b).tiers = s.tiers ∧
    (s.tryAnswered leg t a b).events = s.events ∧ (s.tryAnswered leg t a b).darkThreshold = s.darkThreshold ∧
    (s.tryAnswered leg t a b).taps.map Prod.fst = s.taps.map Prod.fst ∧ (s.tryAnswered leg t a b).legs.length = s.legs.length ∧
    (s.tryAnswered leg t a b).link = s.link ∧ (s.tryAnswered leg t a b).elements.map Prod.fst = s.elements.map Prod.fst ∧
    (s.tryAnswered leg t a b).topo = s.topo ∧ (s.tryAnswered leg t a b).clock = s.clock ∧
    (s.tryAnswered leg t a b).announced = s.announced ∧ (s.tryAnswered leg t a b).billing = s.billing ∧
    (s.tryAnswered leg t a b).inputs = s.inputs ∧ (s.tryAnswered leg t a b).free = s.free ∧
    (s.tryAnswered leg t a b).pending = s.pending := by
  unfold State.tryAnswered
  (repeat' split) <;> simp

@[simp] theorem State.judge_frame (s : State) (leg l : Nat) (t : Transaction) (f : Received) :
    (s.judge leg l t f).port = s.port ∧ (s.judge leg l t f).mode = s.mode ∧ (s.judge leg l t f).subs = s.subs ∧
    (s.judge leg l t f).accounts = s.accounts ∧ (s.judge leg l t f).slots = s.slots ∧ (s.judge leg l t f).tiers = s.tiers ∧
    (s.judge leg l t f).events = s.events ∧ (s.judge leg l t f).darkThreshold = s.darkThreshold ∧
    (s.judge leg l t f).taps.map Prod.fst = s.taps.map Prod.fst ∧ (s.judge leg l t f).legs.length = s.legs.length ∧
    (s.judge leg l t f).link = s.link ∧ (s.judge leg l t f).elements.map Prod.fst = s.elements.map Prod.fst ∧
    (s.judge leg l t f).topo = s.topo ∧ (s.judge leg l t f).clock = s.clock ∧ (s.judge leg l t f).announced = s.announced ∧
    (s.judge leg l t f).billing = s.billing ∧ (s.judge leg l t f).inputs = s.inputs ∧ (s.judge leg l t f).free = s.free ∧
    (s.judge leg l t f).pending = s.pending := by
  unfold State.judge
  (repeat' split) <;> simp

@[simp] theorem State.hold_frame (s : State) (leg : Nat) (rx : List Byte) :
    (s.hold leg rx).port = s.port ∧ (s.hold leg rx).mode = s.mode ∧ (s.hold leg rx).subs = s.subs ∧
    (s.hold leg rx).accounts = s.accounts ∧ (s.hold leg rx).slots = s.slots ∧ (s.hold leg rx).tiers = s.tiers ∧
    (s.hold leg rx).events = s.events ∧ (s.hold leg rx).darkThreshold = s.darkThreshold ∧ (s.hold leg rx).taps = s.taps ∧
    (s.hold leg rx).urgent = s.urgent ∧ (s.hold leg rx).bulk = s.bulk ∧ (s.hold leg rx).sweep = s.sweep ∧
    (s.hold leg rx).scopes = s.scopes ∧ (s.hold leg rx).legs.length = s.legs.length ∧ (s.hold leg rx).link = s.link ∧
    (s.hold leg rx).elements = s.elements ∧ (s.hold leg rx).topo = s.topo ∧ (s.hold leg rx).clock = s.clock ∧
    (s.hold leg rx).announced = s.announced ∧ (s.hold leg rx).billing = s.billing ∧ (s.hold leg rx).inputs = s.inputs ∧
    (s.hold leg rx).alarms = s.alarms ∧ (s.hold leg rx).free = s.free ∧ (s.hold leg rx).pending = s.pending := by
  simp [State.hold]

@[simp] theorem State.measure_frame (s : State) (leg n : Nat) :
    (s.measure leg n).port = s.port ∧ (s.measure leg n).mode = s.mode ∧ (s.measure leg n).subs = s.subs ∧
    (s.measure leg n).accounts = s.accounts ∧ (s.measure leg n).slots = s.slots ∧ (s.measure leg n).tiers = s.tiers ∧
    (s.measure leg n).events = s.events ∧ (s.measure leg n).darkThreshold = s.darkThreshold ∧ (s.measure leg n).taps = s.taps ∧
    (s.measure leg n).urgent = s.urgent ∧ (s.measure leg n).bulk = s.bulk ∧ (s.measure leg n).sweep = s.sweep ∧
    (s.measure leg n).scopes = s.scopes ∧ (s.measure leg n).legs.length = s.legs.length ∧ (s.measure leg n).link = s.link ∧
    (s.measure leg n).elements = s.elements ∧ (s.measure leg n).topo = s.topo ∧ (s.measure leg n).clock = s.clock ∧
    (s.measure leg n).announced = s.announced ∧ (s.measure leg n).billing = s.billing ∧ (s.measure leg n).inputs = s.inputs ∧
    (s.measure leg n).alarms = s.alarms ∧ (s.measure leg n).free = s.free ∧ (s.measure leg n).pending = s.pending := by
  simp [State.measure]

@[simp] theorem State.assembly_frame (s : State) (leg awaited : Nat) (t : Transaction) (rx : List Byte) :
    (s.assembly leg awaited t rx).port = s.port ∧ (s.assembly leg awaited t rx).mode = s.mode ∧ (s.assembly leg awaited t rx).subs = s.subs ∧
    (s.assembly leg awaited t rx).accounts = s.accounts ∧ (s.assembly leg awaited t rx).slots = s.slots ∧ (s.assembly leg awaited t rx).tiers = s.tiers ∧
    (s.assembly leg awaited t rx).events = s.events ∧ (s.assembly leg awaited t rx).darkThreshold = s.darkThreshold ∧
    (s.assembly leg awaited t rx).taps.map Prod.fst = s.taps.map Prod.fst ∧ (s.assembly leg awaited t rx).legs.length = s.legs.length ∧
    (s.assembly leg awaited t rx).link = s.link ∧ (s.assembly leg awaited t rx).elements.map Prod.fst = s.elements.map Prod.fst ∧
    (s.assembly leg awaited t rx).topo = s.topo ∧ (s.assembly leg awaited t rx).clock = s.clock ∧ (s.assembly leg awaited t rx).announced = s.announced ∧
    (s.assembly leg awaited t rx).billing = s.billing ∧ (s.assembly leg awaited t rx).inputs = s.inputs ∧ (s.assembly leg awaited t rx).free = s.free ∧
    (s.assembly leg awaited t rx).pending = s.pending := by
  unfold State.assembly
  split <;> simp

@[simp] theorem State.receiveChar_frame (leg : Nat) (s : State) (c : Byte) :
    (State.receiveChar leg s c).port = s.port ∧ (State.receiveChar leg s c).mode = s.mode ∧
    (State.receiveChar leg s c).subs = s.subs ∧ (State.receiveChar leg s c).accounts = s.accounts ∧
    (State.receiveChar leg s c).slots = s.slots ∧ (State.receiveChar leg s c).tiers = s.tiers ∧
    (State.receiveChar leg s c).events = s.events ∧ (State.receiveChar leg s c).darkThreshold = s.darkThreshold ∧
    (State.receiveChar leg s c).taps.map Prod.fst = s.taps.map Prod.fst ∧
    (State.receiveChar leg s c).legs.length = s.legs.length ∧ (State.receiveChar leg s c).link = s.link ∧
    (State.receiveChar leg s c).elements.map Prod.fst = s.elements.map Prod.fst ∧
    (State.receiveChar leg s c).topo = s.topo ∧ (State.receiveChar leg s c).clock = s.clock ∧
    (State.receiveChar leg s c).announced = s.announced ∧ (State.receiveChar leg s c).billing = s.billing ∧
    (State.receiveChar leg s c).inputs = s.inputs ∧ (State.receiveChar leg s c).free = s.free ∧
    (State.receiveChar leg s c).pending = s.pending := by
  unfold State.receiveChar
  (repeat' split) <;> simp

/-- What every character keeps, the reception of some characters keeps. -/
theorem receiveChars_keep {β : Type} (g : State → β) (leg : Nat) (h : ∀ s c, g (State.receiveChar leg s c) = g s)
    (chars : List Byte) (s : State) : g (chars.foldl (State.receiveChar leg) s) = g s := foldl_keep g h chars s

@[simp] theorem State.abandon_frame (s : State) (leg : Nat) (t : Transaction) :
    (s.abandon leg t).port = s.port ∧ (s.abandon leg t).mode = s.mode ∧ (s.abandon leg t).subs = s.subs ∧
    (s.abandon leg t).accounts = s.accounts ∧ (s.abandon leg t).slots = s.slots ∧ (s.abandon leg t).tiers = s.tiers ∧
    (s.abandon leg t).events = s.events ∧ (s.abandon leg t).darkThreshold = s.darkThreshold ∧
    (s.abandon leg t).taps.map Prod.fst = s.taps.map Prod.fst ∧ (s.abandon leg t).sweep = s.sweep ∧
    (s.abandon leg t).scopes = s.scopes ∧ (s.abandon leg t).legs.length = s.legs.length ∧ (s.abandon leg t).link = s.link ∧
    (s.abandon leg t).elements.map Prod.fst = s.elements.map Prod.fst ∧ (s.abandon leg t).topo = s.topo ∧
    (s.abandon leg t).clock = s.clock ∧ (s.abandon leg t).announced = s.announced ∧ (s.abandon leg t).billing = s.billing ∧
    (s.abandon leg t).inputs = s.inputs ∧ (s.abandon leg t).alarms = s.alarms ∧ (s.abandon leg t).free = s.free ∧
    (s.abandon leg t).pending = s.pending := by
  unfold State.abandon
  (repeat' split) <;> simp

@[simp] theorem State.beginFault_frame (s : State) (leg : Nat) (a : Activity) (t : Option Transaction) :
    (s.beginFault leg a t).port = s.port ∧ (s.beginFault leg a t).mode = s.mode ∧ (s.beginFault leg a t).subs = s.subs ∧
    (s.beginFault leg a t).accounts = s.accounts ∧ (s.beginFault leg a t).slots = s.slots ∧
    (s.beginFault leg a t).tiers = s.tiers ∧ (s.beginFault leg a t).events = s.events ∧
    (s.beginFault leg a t).darkThreshold = s.darkThreshold ∧ (s.beginFault leg a t).taps.map Prod.fst = s.taps.map Prod.fst ∧
    (s.beginFault leg a t).sweep = s.sweep ∧ (s.beginFault leg a t).scopes = s.scopes ∧
    (s.beginFault leg a t).legs.length = s.legs.length ∧ (s.beginFault leg a t).link = s.link ∧
    (s.beginFault leg a t).elements.map Prod.fst = s.elements.map Prod.fst ∧ (s.beginFault leg a t).topo = s.topo ∧
    (s.beginFault leg a t).clock = s.clock ∧ (s.beginFault leg a t).announced = s.announced ∧
    (s.beginFault leg a t).billing = s.billing ∧ (s.beginFault leg a t).inputs = s.inputs ∧
    (s.beginFault leg a t).free = s.free ∧ (s.beginFault leg a t).pending = s.pending := by
  unfold State.beginFault
  (repeat' split) <;> simp

@[simp] theorem State.refund_frame (s : State) (i price : Nat) (b : RefundBy) :
    (s.refund i price b).port = s.port ∧ (s.refund i price b).mode = s.mode ∧
    (s.refund i price b).subs.map Prod.fst = s.subs.map Prod.fst ∧ (s.refund i price b).accounts = s.accounts ∧
    (s.refund i price b).slots = s.slots ∧ (s.refund i price b).tiers = s.tiers ∧ (s.refund i price b).events = s.events ∧
    (s.refund i price b).darkThreshold = s.darkThreshold ∧ (s.refund i price b).taps.map Prod.fst = s.taps.map Prod.fst ∧
    (s.refund i price b).sweep = s.sweep ∧ (s.refund i price b).scopes = s.scopes ∧ (s.refund i price b).legs = s.legs ∧
    (s.refund i price b).link = s.link ∧ (s.refund i price b).elements = s.elements ∧ (s.refund i price b).topo = s.topo ∧
    (s.refund i price b).clock = s.clock ∧ (s.refund i price b).announced = s.announced ∧
    (s.refund i price b).billing = s.billing ∧ (s.refund i price b).inputs = s.inputs ∧ (s.refund i price b).free = s.free ∧
    (s.refund i price b).pending = s.pending := by
  unfold State.refund
  dsimp only
  (repeat' split) <;> simp

@[simp] theorem State.grant_frame (s : State) (i : Nat) (e : Episode) (b : Bool) :
    (s.grant i e b).port = s.port ∧ (s.grant i e b).mode = s.mode ∧ (s.grant i e b).subs.map Prod.fst = s.subs.map Prod.fst ∧
    (s.grant i e b).accounts = s.accounts ∧ (s.grant i e b).slots = s.slots ∧ (s.grant i e b).tiers = s.tiers ∧
    (s.grant i e b).events = s.events ∧ (s.grant i e b).darkThreshold = s.darkThreshold ∧
    (s.grant i e b).taps.map Prod.fst = s.taps.map Prod.fst ∧ (s.grant i e b).sweep = s.sweep ∧
    (s.grant i e b).scopes = s.scopes ∧ (s.grant i e b).legs = s.legs ∧ (s.grant i e b).link = s.link ∧
    (s.grant i e b).elements = s.elements ∧ (s.grant i e b).topo = s.topo ∧ (s.grant i e b).clock = s.clock ∧
    (s.grant i e b).announced = s.announced ∧ (s.grant i e b).billing = s.billing ∧ (s.grant i e b).inputs = s.inputs ∧
    (s.grant i e b).free = s.free ∧ (s.grant i e b).pending = s.pending := by
  unfold State.grant
  dsimp only
  (repeat' split) <;> simp

@[simp] theorem State.endEpisode_frame (s : State) (i : Nat) (e : Episode) (b : Bool) :
    (s.endEpisode i e b).port = s.port ∧ (s.endEpisode i e b).mode = s.mode ∧
    (s.endEpisode i e b).subs.map Prod.fst = s.subs.map Prod.fst ∧ (s.endEpisode i e b).accounts = s.accounts ∧
    (s.endEpisode i e b).slots = s.slots ∧ (s.endEpisode i e b).tiers = s.tiers ∧ (s.endEpisode i e b).events = s.events ∧
    (s.endEpisode i e b).darkThreshold = s.darkThreshold ∧ (s.endEpisode i e b).taps.map Prod.fst = s.taps.map Prod.fst ∧
    (s.endEpisode i e b).sweep = s.sweep ∧ (s.endEpisode i e b).scopes = s.scopes ∧ (s.endEpisode i e b).legs = s.legs ∧
    (s.endEpisode i e b).link = s.link ∧ (s.endEpisode i e b).elements = s.elements ∧ (s.endEpisode i e b).topo = s.topo ∧
    (s.endEpisode i e b).clock = s.clock ∧ (s.endEpisode i e b).announced = s.announced ∧
    (s.endEpisode i e b).billing = s.billing ∧ (s.endEpisode i e b).inputs = s.inputs ∧ (s.endEpisode i e b).free = s.free ∧
    (s.endEpisode i e b).pending = s.pending := by
  unfold State.endEpisode
  (repeat' split) <;> simp

@[simp] theorem State.outageCheck_frame (s : State) (i rate : Nat) :
    (s.outageCheck i rate).port = s.port ∧ (s.outageCheck i rate).mode = s.mode ∧
    (s.outageCheck i rate).subs.map Prod.fst = s.subs.map Prod.fst ∧ (s.outageCheck i rate).accounts = s.accounts ∧
    (s.outageCheck i rate).slots = s.slots ∧ (s.outageCheck i rate).tiers = s.tiers ∧ (s.outageCheck i rate).events = s.events ∧
    (s.outageCheck i rate).darkThreshold = s.darkThreshold ∧ (s.outageCheck i rate).taps.map Prod.fst = s.taps.map Prod.fst ∧
    (s.outageCheck i rate).sweep = s.sweep ∧ (s.outageCheck i rate).scopes = s.scopes ∧ (s.outageCheck i rate).legs = s.legs ∧
    (s.outageCheck i rate).link = s.link ∧ (s.outageCheck i rate).elements = s.elements ∧ (s.outageCheck i rate).topo = s.topo ∧
    (s.outageCheck i rate).clock = s.clock ∧ (s.outageCheck i rate).announced = s.announced ∧
    (s.outageCheck i rate).billing = s.billing ∧ (s.outageCheck i rate).inputs = s.inputs ∧
    (s.outageCheck i rate).free = s.free ∧ (s.outageCheck i rate).pending = s.pending := by
  unfold State.outageCheck
  (repeat' split) <;> simp

@[simp] theorem State.meterRecord_frame (s : State) (i : Nat) (r : Subscriber) :
    (s.meterRecord i r).port = s.port ∧ (s.meterRecord i r).mode = s.mode ∧
    (s.meterRecord i r).subs.map Prod.fst = s.subs.map Prod.fst ∧ (s.meterRecord i r).accounts = s.accounts ∧
    (s.meterRecord i r).slots = s.slots ∧ (s.meterRecord i r).tiers = s.tiers ∧ (s.meterRecord i r).events = s.events ∧
    (s.meterRecord i r).darkThreshold = s.darkThreshold ∧ (s.meterRecord i r).taps.map Prod.fst = s.taps.map Prod.fst ∧
    (s.meterRecord i r).sweep = s.sweep ∧ (s.meterRecord i r).scopes = s.scopes ∧ (s.meterRecord i r).legs = s.legs ∧
    (s.meterRecord i r).link = s.link ∧ (s.meterRecord i r).elements = s.elements ∧ (s.meterRecord i r).topo = s.topo ∧
    (s.meterRecord i r).clock = s.clock ∧ (s.meterRecord i r).announced = s.announced ∧
    (s.meterRecord i r).billing = s.billing ∧ (s.meterRecord i r).inputs = s.inputs ∧ (s.meterRecord i r).free = s.free ∧
    (s.meterRecord i r).pending = s.pending := by
  unfold State.meterRecord
  dsimp only
  (repeat' split) <;> simp

@[simp] theorem State.payOpenEpisode_frame (s : State) (i : Nat) (r : Subscriber) :
    (s.payOpenEpisode i r).port = s.port ∧ (s.payOpenEpisode i r).mode = s.mode ∧
    (s.payOpenEpisode i r).subs.map Prod.fst = s.subs.map Prod.fst ∧ (s.payOpenEpisode i r).accounts = s.accounts ∧
    (s.payOpenEpisode i r).slots = s.slots ∧ (s.payOpenEpisode i r).tiers = s.tiers ∧ (s.payOpenEpisode i r).events = s.events ∧
    (s.payOpenEpisode i r).darkThreshold = s.darkThreshold ∧ (s.payOpenEpisode i r).taps.map Prod.fst = s.taps.map Prod.fst ∧
    (s.payOpenEpisode i r).sweep = s.sweep ∧ (s.payOpenEpisode i r).scopes = s.scopes ∧ (s.payOpenEpisode i r).legs = s.legs ∧
    (s.payOpenEpisode i r).link = s.link ∧ (s.payOpenEpisode i r).elements = s.elements ∧ (s.payOpenEpisode i r).topo = s.topo ∧
    (s.payOpenEpisode i r).clock = s.clock ∧ (s.payOpenEpisode i r).announced = s.announced ∧
    (s.payOpenEpisode i r).billing = s.billing ∧ (s.payOpenEpisode i r).inputs = s.inputs ∧
    (s.payOpenEpisode i r).free = s.free ∧ (s.payOpenEpisode i r).pending = s.pending := by
  unfold State.payOpenEpisode
  (repeat' split) <;> simp

@[simp] theorem State.closeFigures_frame (s : State) (i : Nat) :
    (s.closeFigures i).port = s.port ∧ (s.closeFigures i).mode = s.mode ∧
    (s.closeFigures i).subs.map Prod.fst = s.subs.map Prod.fst ∧ (s.closeFigures i).accounts = s.accounts ∧
    (s.closeFigures i).slots = s.slots ∧ (s.closeFigures i).tiers = s.tiers ∧ (s.closeFigures i).events = s.events ∧
    (s.closeFigures i).darkThreshold = s.darkThreshold ∧ (s.closeFigures i).taps.map Prod.fst = s.taps.map Prod.fst ∧
    (s.closeFigures i).sweep = s.sweep ∧ (s.closeFigures i).scopes = s.scopes ∧ (s.closeFigures i).legs = s.legs ∧
    (s.closeFigures i).link = s.link ∧ (s.closeFigures i).elements = s.elements ∧ (s.closeFigures i).topo = s.topo ∧
    (s.closeFigures i).clock = s.clock ∧ (s.closeFigures i).announced = s.announced ∧ (s.closeFigures i).billing = s.billing ∧
    (s.closeFigures i).inputs = s.inputs ∧ (s.closeFigures i).free = s.free ∧ (s.closeFigures i).pending = s.pending := by
  unfold State.closeFigures
  dsimp only
  (repeat' split) <;> simp

@[simp] theorem State.closeRecord_frame (s : State) (i : Nat) :
    (s.closeRecord i).port = s.port ∧ (s.closeRecord i).mode = s.mode ∧
    (s.closeRecord i).subs.map Prod.fst = s.subs.map Prod.fst ∧ (s.closeRecord i).accounts = s.accounts ∧
    (s.closeRecord i).slots = s.slots ∧ (s.closeRecord i).tiers = s.tiers ∧ (s.closeRecord i).events = s.events ∧
    (s.closeRecord i).darkThreshold = s.darkThreshold ∧ (s.closeRecord i).taps.map Prod.fst = s.taps.map Prod.fst ∧
    (s.closeRecord i).sweep = s.sweep ∧ (s.closeRecord i).scopes = s.scopes ∧ (s.closeRecord i).legs = s.legs ∧
    (s.closeRecord i).link = s.link ∧ (s.closeRecord i).elements = s.elements ∧ (s.closeRecord i).topo = s.topo ∧
    (s.closeRecord i).clock = s.clock ∧ (s.closeRecord i).announced = s.announced ∧ (s.closeRecord i).billing = s.billing ∧
    (s.closeRecord i).inputs = s.inputs ∧ (s.closeRecord i).free = s.free ∧ (s.closeRecord i).pending = s.pending := by
  unfold State.closeRecord
  (repeat' split) <;> simp

@[simp] theorem State.visit_frame (s : State) (i : Nat) (b : Bool) :
    (s.visit i b).port = s.port ∧ (s.visit i b).mode = s.mode ∧ (s.visit i b).subs.map Prod.fst = s.subs.map Prod.fst ∧
    (s.visit i b).accounts = s.accounts ∧ (s.visit i b).slots = s.slots ∧ (s.visit i b).tiers = s.tiers ∧
    (s.visit i b).events = s.events ∧ (s.visit i b).darkThreshold = s.darkThreshold ∧
    (s.visit i b).taps.map Prod.fst = s.taps.map Prod.fst ∧ (s.visit i b).sweep = s.sweep ∧ (s.visit i b).scopes = s.scopes ∧
    (s.visit i b).legs = s.legs ∧ (s.visit i b).link = s.link ∧ (s.visit i b).elements = s.elements ∧
    (s.visit i b).topo = s.topo ∧ (s.visit i b).clock = s.clock ∧ (s.visit i b).announced = s.announced ∧
    (s.visit i b).billing = s.billing ∧ (s.visit i b).inputs = s.inputs ∧ (s.visit i b).free = s.free ∧
    (s.visit i b).pending = s.pending := by
  unfold State.visit
  (repeat' split) <;> simp

@[simp] theorem State.handBoundary_frame (s : State) (b : HeldBoundary) :
    (s.handBoundary b).port = s.port ∧ (s.handBoundary b).mode = s.mode ∧ (s.handBoundary b).subs = s.subs ∧
    (s.handBoundary b).accounts = s.accounts ∧ (s.handBoundary b).slots = s.slots ∧ (s.handBoundary b).tiers = s.tiers ∧
    (s.handBoundary b).events = s.events ∧ (s.handBoundary b).darkThreshold = s.darkThreshold ∧
    (s.handBoundary b).taps = s.taps ∧ (s.handBoundary b).urgent = s.urgent ∧ (s.handBoundary b).bulk = s.bulk ∧
    (s.handBoundary b).sweep = s.sweep ∧ (s.handBoundary b).scopes = s.scopes ∧ (s.handBoundary b).legs = s.legs ∧
    (s.handBoundary b).link = s.link ∧ (s.handBoundary b).elements = s.elements ∧ (s.handBoundary b).topo = s.topo ∧
    (s.handBoundary b).announced = s.announced ∧ (s.handBoundary b).inputs = s.inputs ∧ (s.handBoundary b).free = s.free ∧
    (s.handBoundary b).pending = s.pending := by
  unfold State.handBoundary
  (repeat' split) <;> simp

@[simp] theorem State.endClose_frame (s : State) (m : Nat) :
    (s.endClose m).port = s.port ∧ (s.endClose m).mode = s.mode ∧ (s.endClose m).subs = s.subs ∧
    (s.endClose m).accounts = s.accounts ∧ (s.endClose m).slots = s.slots ∧ (s.endClose m).tiers.length = s.tiers.length ∧
    (s.endClose m).events = s.events ∧ (s.endClose m).darkThreshold = s.darkThreshold ∧ (s.endClose m).taps = s.taps ∧
    (s.endClose m).urgent = s.urgent ∧ (s.endClose m).bulk = s.bulk ∧ (s.endClose m).sweep = s.sweep ∧
    (s.endClose m).scopes = s.scopes ∧ (s.endClose m).legs = s.legs ∧ (s.endClose m).link = s.link ∧
    (s.endClose m).elements = s.elements ∧ (s.endClose m).topo = s.topo ∧ (s.endClose m).clock = s.clock ∧
    (s.endClose m).announced = s.announced ∧ (s.endClose m).inputs = s.inputs ∧ (s.endClose m).free = s.free ∧
    (s.endClose m).pending = s.pending := by
  simp [State.endClose]

@[simp] theorem State.endPass_frame (s : State) (p : Pass) :
    (s.endPass p).port = s.port ∧ (s.endPass p).mode = s.mode ∧ (s.endPass p).subs = s.subs ∧
    (s.endPass p).accounts = s.accounts ∧ (s.endPass p).slots = s.slots ∧ (s.endPass p).tiers.length = s.tiers.length ∧
    (s.endPass p).events = s.events ∧ (s.endPass p).darkThreshold = s.darkThreshold ∧ (s.endPass p).taps = s.taps ∧
    (s.endPass p).urgent = s.urgent ∧ (s.endPass p).bulk = s.bulk ∧ (s.endPass p).sweep = s.sweep ∧
    (s.endPass p).scopes = s.scopes ∧ (s.endPass p).legs = s.legs ∧ (s.endPass p).link = s.link ∧
    (s.endPass p).elements = s.elements ∧ (s.endPass p).topo = s.topo ∧ (s.endPass p).announced = s.announced ∧
    (s.endPass p).inputs = s.inputs ∧ (s.endPass p).free = s.free ∧ (s.endPass p).pending = s.pending := by
  unfold State.endPass
  dsimp only
  (repeat' split) <;> simp

@[simp] theorem State.minuteBoundary_frame (s : State) :
    s.minuteBoundary.port = s.port ∧ s.minuteBoundary.mode = s.mode ∧ s.minuteBoundary.subs = s.subs ∧
    s.minuteBoundary.accounts = s.accounts ∧ s.minuteBoundary.slots = s.slots ∧ s.minuteBoundary.tiers = s.tiers ∧
    s.minuteBoundary.events = s.events ∧ s.minuteBoundary.darkThreshold = s.darkThreshold ∧ s.minuteBoundary.taps = s.taps ∧
    s.minuteBoundary.urgent = s.urgent ∧ s.minuteBoundary.bulk = s.bulk ∧ s.minuteBoundary.sweep = s.sweep ∧
    s.minuteBoundary.scopes = s.scopes ∧ s.minuteBoundary.legs = s.legs ∧ s.minuteBoundary.link = s.link ∧
    s.minuteBoundary.elements = s.elements ∧ s.minuteBoundary.topo = s.topo ∧ s.minuteBoundary.inputs = s.inputs ∧
    s.minuteBoundary.free = s.free ∧ s.minuteBoundary.pending = s.pending := by
  unfold State.minuteBoundary
  (repeat' split) <;> simp

@[simp] theorem State.secondEdge_frame (s : State) (b : Bool) :
    (s.secondEdge b).port = s.port ∧ (s.secondEdge b).mode = s.mode ∧ (s.secondEdge b).subs = s.subs ∧
    (s.secondEdge b).accounts = s.accounts ∧ (s.secondEdge b).slots = s.slots ∧ (s.secondEdge b).tiers = s.tiers ∧
    (s.secondEdge b).events = s.events ∧ (s.secondEdge b).darkThreshold = s.darkThreshold ∧ (s.secondEdge b).taps = s.taps ∧
    (s.secondEdge b).urgent = s.urgent ∧ (s.secondEdge b).bulk = s.bulk ∧ (s.secondEdge b).sweep = s.sweep ∧
    (s.secondEdge b).scopes = s.scopes ∧ (s.secondEdge b).legs = s.legs ∧ (s.secondEdge b).link = s.link ∧
    (s.secondEdge b).elements = s.elements ∧ (s.secondEdge b).topo = s.topo ∧ (s.secondEdge b).inputs = s.inputs ∧
    (s.secondEdge b).free = s.free ∧ (s.secondEdge b).pending = s.pending := by
  unfold State.secondEdge
  (repeat' split) <;> simp

@[simp] theorem State.pulseTaken_frame (s : State) :
    s.pulseTaken.port = s.port ∧ s.pulseTaken.mode = s.mode ∧ s.pulseTaken.subs = s.subs ∧ s.pulseTaken.accounts = s.accounts ∧
    s.pulseTaken.slots = s.slots ∧ s.pulseTaken.tiers = s.tiers ∧ s.pulseTaken.events = s.events ∧
    s.pulseTaken.darkThreshold = s.darkThreshold ∧ s.pulseTaken.taps = s.taps ∧ s.pulseTaken.urgent = s.urgent ∧
    s.pulseTaken.bulk = s.bulk ∧ s.pulseTaken.sweep = s.sweep ∧ s.pulseTaken.scopes = s.scopes ∧ s.pulseTaken.legs = s.legs ∧
    s.pulseTaken.link = s.link ∧ s.pulseTaken.elements = s.elements ∧ s.pulseTaken.topo = s.topo ∧
    s.pulseTaken.announced = s.announced ∧ s.pulseTaken.billing = s.billing ∧ s.pulseTaken.inputs = s.inputs ∧
    s.pulseTaken.free = s.free ∧ s.pulseTaken.pending = s.pending := by
  unfold State.pulseTaken
  (repeat' split) <;> simp

@[simp] theorem State.setReference_frame (s : State) (b : Bool) :
    (s.setReference b).port = s.port ∧ (s.setReference b).mode = s.mode ∧ (s.setReference b).subs = s.subs ∧
    (s.setReference b).accounts = s.accounts ∧ (s.setReference b).slots = s.slots ∧ (s.setReference b).tiers = s.tiers ∧
    (s.setReference b).events = s.events ∧ (s.setReference b).darkThreshold = s.darkThreshold ∧
    (s.setReference b).taps = s.taps ∧ (s.setReference b).urgent = s.urgent ∧ (s.setReference b).bulk = s.bulk ∧
    (s.setReference b).sweep = s.sweep ∧ (s.setReference b).scopes = s.scopes ∧ (s.setReference b).legs = s.legs ∧
    (s.setReference b).link = s.link ∧ (s.setReference b).elements = s.elements ∧ (s.setReference b).topo = s.topo ∧
    (s.setReference b).announced = s.announced ∧ (s.setReference b).billing = s.billing ∧ (s.setReference b).inputs = s.inputs ∧
    (s.setReference b).free = s.free ∧ (s.setReference b).pending = s.pending := by
  unfold State.setReference
  (repeat' split) <;> simp

@[simp] theorem State.settlePurchase_frame (s : State) (i id : Nat) :
    (s.settlePurchase i id).port = s.port ∧ (s.settlePurchase i id).mode = s.mode ∧
    (s.settlePurchase i id).subs.map Prod.fst = s.subs.map Prod.fst ∧ (s.settlePurchase i id).accounts = s.accounts ∧
    (s.settlePurchase i id).slots = s.slots ∧ (s.settlePurchase i id).tiers = s.tiers ∧
    (s.settlePurchase i id).events.map Prod.fst = s.events.map Prod.fst ∧
    (s.settlePurchase i id).darkThreshold = s.darkThreshold ∧ (s.settlePurchase i id).taps.map Prod.fst = s.taps.map Prod.fst ∧
    (s.settlePurchase i id).sweep = s.sweep ∧ (s.settlePurchase i id).scopes = s.scopes ∧
    (s.settlePurchase i id).legs = s.legs ∧ (s.settlePurchase i id).link = s.link ∧
    (s.settlePurchase i id).elements = s.elements ∧ (s.settlePurchase i id).topo = s.topo ∧
    (s.settlePurchase i id).clock = s.clock ∧ (s.settlePurchase i id).announced = s.announced ∧
    (s.settlePurchase i id).billing = s.billing ∧ (s.settlePurchase i id).inputs = s.inputs ∧
    (s.settlePurchase i id).free = s.free ∧ (s.settlePurchase i id).pending = s.pending := by
  unfold State.settlePurchase
  (repeat' split) <;> simp

@[simp] theorem State.emptyPurchases_frame (s : State) (i : Nat) (r : Subscriber) :
    (s.emptyPurchases i r).port = s.port ∧ (s.emptyPurchases i r).mode = s.mode ∧
    (s.emptyPurchases i r).subs.map Prod.fst = s.subs.map Prod.fst ∧ (s.emptyPurchases i r).accounts = s.accounts ∧
    (s.emptyPurchases i r).slots = s.slots ∧ (s.emptyPurchases i r).tiers = s.tiers ∧
    (s.emptyPurchases i r).events.map Prod.fst = s.events.map Prod.fst ∧
    (s.emptyPurchases i r).darkThreshold = s.darkThreshold ∧ (s.emptyPurchases i r).taps.map Prod.fst = s.taps.map Prod.fst ∧
    (s.emptyPurchases i r).sweep = s.sweep ∧ (s.emptyPurchases i r).scopes = s.scopes ∧ (s.emptyPurchases i r).legs = s.legs ∧
    (s.emptyPurchases i r).link = s.link ∧ (s.emptyPurchases i r).elements = s.elements ∧ (s.emptyPurchases i r).topo = s.topo ∧
    (s.emptyPurchases i r).clock = s.clock ∧ (s.emptyPurchases i r).announced = s.announced ∧
    (s.emptyPurchases i r).billing = s.billing ∧ (s.emptyPurchases i r).inputs = s.inputs ∧
    (s.emptyPurchases i r).free = s.free ∧ (s.emptyPurchases i r).pending = s.pending := by
  unfold State.emptyPurchases
  and_intros
  · simpa using foldl_keep State.port (by simp) _ _
  · simpa using foldl_keep State.mode (by simp) _ _
  · simpa using foldl_keep (fun s : State => s.subs.map Prod.fst) (by simp) _ _
  · simpa using foldl_keep State.accounts (by simp) _ _
  · simpa using foldl_keep State.slots (by simp) _ _
  · simpa using foldl_keep State.tiers (by simp) _ _
  · simpa using foldl_keep (fun s : State => s.events.map Prod.fst) (by simp) _ _
  · simpa using foldl_keep State.darkThreshold (by simp) _ _
  · simpa using foldl_keep (fun s : State => s.taps.map Prod.fst) (by simp) _ _
  · simpa using foldl_keep State.sweep (by simp) _ _
  · simpa using foldl_keep State.scopes (by simp) _ _
  · simpa using foldl_keep State.legs (by simp) _ _
  · simpa using foldl_keep State.link (by simp) _ _
  · simpa using foldl_keep State.elements (by simp) _ _
  · simpa using foldl_keep State.topo (by simp) _ _
  · simpa using foldl_keep State.clock (by simp) _ _
  · simpa using foldl_keep State.announced (by simp) _ _
  · simpa using foldl_keep State.billing (by simp) _ _
  · simpa using foldl_keep State.inputs (by simp) _ _
  · simpa using foldl_keep State.free (by simp) _ _
  · simpa using foldl_keep State.pending (by simp) _ _

@[simp] theorem State.settleEpisode_frame (s : State) (i : Nat) (r : Subscriber) :
    (s.settleEpisode i r).port = s.port ∧ (s.settleEpisode i r).mode = s.mode ∧
    (s.settleEpisode i r).subs.map Prod.fst = s.subs.map Prod.fst ∧ (s.settleEpisode i r).accounts = s.accounts ∧
    (s.settleEpisode i r).slots = s.slots ∧ (s.settleEpisode i r).tiers = s.tiers ∧ (s.settleEpisode i r).events = s.events ∧
    (s.settleEpisode i r).darkThreshold = s.darkThreshold ∧ (s.settleEpisode i r).taps.map Prod.fst = s.taps.map Prod.fst ∧
    (s.settleEpisode i r).sweep = s.sweep ∧ (s.settleEpisode i r).scopes = s.scopes ∧ (s.settleEpisode i r).legs = s.legs ∧
    (s.settleEpisode i r).link = s.link ∧ (s.settleEpisode i r).elements = s.elements ∧ (s.settleEpisode i r).topo = s.topo ∧
    (s.settleEpisode i r).clock = s.clock ∧ (s.settleEpisode i r).announced = s.announced ∧
    (s.settleEpisode i r).billing = s.billing ∧ (s.settleEpisode i r).inputs = s.inputs ∧ (s.settleEpisode i r).free = s.free ∧
    (s.settleEpisode i r).pending = s.pending := by
  unfold State.settleEpisode
  (repeat' split) <;> simp

@[simp] theorem State.closeSubscriber_frame (s : State) (i : Nat) (r : Subscriber) :
    (s.closeSubscriber i r).port = s.port ∧ (s.closeSubscriber i r).mode = s.mode ∧
    (s.closeSubscriber i r).subs.map Prod.fst = s.subs.map Prod.fst ∧ (s.closeSubscriber i r).accounts = s.accounts ∧
    (s.closeSubscriber i r).slots = s.slots ∧ (s.closeSubscriber i r).tiers = s.tiers ∧
    (s.closeSubscriber i r).events.map Prod.fst = s.events.map Prod.fst ∧
    (s.closeSubscriber i r).darkThreshold = s.darkThreshold ∧ (s.closeSubscriber i r).taps.map Prod.fst = s.taps.map Prod.fst ∧
    (s.closeSubscriber i r).sweep = s.sweep ∧ (s.closeSubscriber i r).scopes = s.scopes ∧
    (s.closeSubscriber i r).legs = s.legs ∧ (s.closeSubscriber i r).link = s.link ∧
    (s.closeSubscriber i r).elements = s.elements ∧ (s.closeSubscriber i r).topo = s.topo ∧
    (s.closeSubscriber i r).clock = s.clock ∧ (s.closeSubscriber i r).announced = s.announced ∧
    (s.closeSubscriber i r).billing = s.billing ∧ (s.closeSubscriber i r).inputs = s.inputs ∧
    (s.closeSubscriber i r).free = s.free ∧ (s.closeSubscriber i r).pending = s.pending := by
  simp [State.closeSubscriber]

@[simp] theorem State.unbindRecord_frame (s : State) (i : Nat) (p : Option PortRef) :
    (s.unbindRecord i p).port = s.port ∧ (s.unbindRecord i p).mode = s.mode ∧
    (s.unbindRecord i p).subs.map Prod.fst = s.subs.map Prod.fst ∧ (s.unbindRecord i p).accounts = s.accounts ∧
    (s.unbindRecord i p).slots = s.slots ∧ (s.unbindRecord i p).tiers = s.tiers ∧ (s.unbindRecord i p).events = s.events ∧
    (s.unbindRecord i p).darkThreshold = s.darkThreshold ∧ (s.unbindRecord i p).taps.map Prod.fst = s.taps.map Prod.fst ∧
    (s.unbindRecord i p).sweep = s.sweep ∧ (s.unbindRecord i p).scopes = s.scopes ∧ (s.unbindRecord i p).legs = s.legs ∧
    (s.unbindRecord i p).link = s.link ∧ (s.unbindRecord i p).elements = s.elements ∧ (s.unbindRecord i p).topo = s.topo ∧
    (s.unbindRecord i p).clock = s.clock ∧ (s.unbindRecord i p).announced = s.announced ∧
    (s.unbindRecord i p).billing = s.billing ∧ (s.unbindRecord i p).inputs = s.inputs ∧ (s.unbindRecord i p).alarms = s.alarms ∧
    (s.unbindRecord i p).free = s.free ∧ (s.unbindRecord i p).pending = s.pending := by
  unfold State.unbindRecord
  (repeat' split) <;> simp

@[simp] theorem State.moveNeeds_frame (s : State) (a b : Nat) :
    (s.moveNeeds a b).port = s.port ∧ (s.moveNeeds a b).mode = s.mode ∧ (s.moveNeeds a b).subs = s.subs ∧
    (s.moveNeeds a b).accounts = s.accounts ∧ (s.moveNeeds a b).slots = s.slots ∧ (s.moveNeeds a b).tiers = s.tiers ∧
    (s.moveNeeds a b).events = s.events ∧ (s.moveNeeds a b).darkThreshold = s.darkThreshold ∧
    (s.moveNeeds a b).taps.map Prod.fst = s.taps.map Prod.fst ∧ (s.moveNeeds a b).sweep = s.sweep ∧
    (s.moveNeeds a b).scopes = s.scopes ∧ (s.moveNeeds a b).legs = s.legs ∧ (s.moveNeeds a b).link = s.link ∧
    (s.moveNeeds a b).elements = s.elements ∧ (s.moveNeeds a b).topo = s.topo ∧ (s.moveNeeds a b).clock = s.clock ∧
    (s.moveNeeds a b).announced = s.announced ∧ (s.moveNeeds a b).billing = s.billing ∧ (s.moveNeeds a b).inputs = s.inputs ∧
    (s.moveNeeds a b).alarms = s.alarms ∧ (s.moveNeeds a b).free = s.free ∧ (s.moveNeeds a b).pending = s.pending := by
  unfold State.moveNeeds
  (repeat' split) <;> simp

@[simp] theorem State.slotBoundary_frame (s : State) (n i : Nat) :
    (s.slotBoundary n i).port = s.port ∧ (s.slotBoundary n i).mode = s.mode ∧ (s.slotBoundary n i).subs = s.subs ∧
    (s.slotBoundary n i).accounts = s.accounts ∧ (s.slotBoundary n i).slots.length = s.slots.length ∧
    (s.slotBoundary n i).tiers = s.tiers ∧ (s.slotBoundary n i).events = s.events ∧
    (s.slotBoundary n i).darkThreshold = s.darkThreshold ∧ (s.slotBoundary n i).taps.map Prod.fst = s.taps.map Prod.fst ∧
    (s.slotBoundary n i).urgent = s.urgent ∧ (s.slotBoundary n i).bulk = s.bulk ∧ (s.slotBoundary n i).legs = s.legs ∧
    (s.slotBoundary n i).link = s.link ∧ (s.slotBoundary n i).elements = s.elements ∧ (s.slotBoundary n i).topo = s.topo ∧
    (s.slotBoundary n i).clock = s.clock ∧ (s.slotBoundary n i).announced = s.announced ∧
    (s.slotBoundary n i).billing = s.billing ∧ (s.slotBoundary n i).inputs = s.inputs ∧ (s.slotBoundary n i).alarms = s.alarms ∧
    (s.slotBoundary n i).free = s.free ∧ (s.slotBoundary n i).pending = s.pending := by
  unfold State.slotBoundary
  dsimp only
  (repeat' split) <;> simp

@[simp] theorem State.refreshDark_frame (s : State) (slot : Nat) :
    (s.refreshDark slot).port = s.port ∧ (s.refreshDark slot).mode = s.mode ∧ (s.refreshDark slot).subs = s.subs ∧
    (s.refreshDark slot).accounts = s.accounts ∧ (s.refreshDark slot).slots.length = s.slots.length ∧
    (s.refreshDark slot).tiers = s.tiers ∧ (s.refreshDark slot).events = s.events ∧
    (s.refreshDark slot).darkThreshold = s.darkThreshold ∧ (s.refreshDark slot).taps = s.taps ∧
    (s.refreshDark slot).urgent = s.urgent ∧ (s.refreshDark slot).bulk = s.bulk ∧ (s.refreshDark slot).sweep = s.sweep ∧
    (s.refreshDark slot).scopes = s.scopes ∧ (s.refreshDark slot).legs = s.legs ∧ (s.refreshDark slot).link = s.link ∧
    (s.refreshDark slot).elements = s.elements ∧ (s.refreshDark slot).topo = s.topo ∧ (s.refreshDark slot).clock = s.clock ∧
    (s.refreshDark slot).announced = s.announced ∧ (s.refreshDark slot).billing = s.billing ∧
    (s.refreshDark slot).inputs = s.inputs ∧ (s.refreshDark slot).free = s.free ∧ (s.refreshDark slot).pending = s.pending := by
  unfold State.refreshDark
  (repeat' split) <;> simp

@[simp] theorem State.sweepTap_frame (s : State) (x : Scope) (tap : Nat) :
    (s.sweepTap x tap).port = s.port ∧ (s.sweepTap x tap).mode = s.mode ∧ (s.sweepTap x tap).subs = s.subs ∧
    (s.sweepTap x tap).accounts = s.accounts ∧ (s.sweepTap x tap).slots = s.slots ∧ (s.sweepTap x tap).tiers = s.tiers ∧
    (s.sweepTap x tap).events = s.events ∧ (s.sweepTap x tap).darkThreshold = s.darkThreshold ∧
    (s.sweepTap x tap).taps.map Prod.fst = s.taps.map Prod.fst ∧ (s.sweepTap x tap).sweep = s.sweep ∧
    (s.sweepTap x tap).scopes = s.scopes ∧ (s.sweepTap x tap).legs = s.legs ∧ (s.sweepTap x tap).link = s.link ∧
    (s.sweepTap x tap).elements = s.elements ∧ (s.sweepTap x tap).topo = s.topo ∧ (s.sweepTap x tap).clock = s.clock ∧
    (s.sweepTap x tap).announced = s.announced ∧ (s.sweepTap x tap).billing = s.billing ∧ (s.sweepTap x tap).inputs = s.inputs ∧
    (s.sweepTap x tap).alarms = s.alarms ∧ (s.sweepTap x tap).free = s.free ∧ (s.sweepTap x tap).pending = s.pending := by
  unfold State.sweepTap
  dsimp only
  (repeat' split) <;> simp

@[simp] theorem State.retestMisses_frame (s : State) (d e : Nat) :
    (s.retestMisses d e).port = s.port ∧ (s.retestMisses d e).mode = s.mode ∧ (s.retestMisses d e).subs = s.subs ∧
    (s.retestMisses d e).accounts = s.accounts ∧ (s.retestMisses d e).slots = s.slots ∧ (s.retestMisses d e).tiers = s.tiers ∧
    (s.retestMisses d e).events = s.events ∧ (s.retestMisses d e).darkThreshold = s.darkThreshold ∧
    (s.retestMisses d e).taps = s.taps ∧ (s.retestMisses d e).urgent = s.urgent ∧ (s.retestMisses d e).bulk = s.bulk ∧
    (s.retestMisses d e).sweep = s.sweep ∧ (s.retestMisses d e).scopes = s.scopes ∧ (s.retestMisses d e).legs = s.legs ∧
    (s.retestMisses d e).link = s.link ∧ (s.retestMisses d e).elements.map Prod.fst = s.elements.map Prod.fst ∧
    (s.retestMisses d e).topo = s.topo ∧ (s.retestMisses d e).clock = s.clock ∧ (s.retestMisses d e).announced = s.announced ∧
    (s.retestMisses d e).billing = s.billing ∧ (s.retestMisses d e).inputs = s.inputs ∧ (s.retestMisses d e).free = s.free ∧
    (s.retestMisses d e).pending = s.pending := by
  unfold State.retestMisses
  (repeat' split) <;> simp

@[simp] theorem State.applyThreshold_frame (s : State) :
    s.applyThreshold.port = s.port ∧ s.applyThreshold.mode = s.mode ∧ s.applyThreshold.subs = s.subs ∧
    s.applyThreshold.accounts = s.accounts ∧ s.applyThreshold.slots = s.slots ∧ s.applyThreshold.tiers = s.tiers ∧
    s.applyThreshold.events = s.events ∧ s.applyThreshold.darkThreshold = s.darkThreshold ∧ s.applyThreshold.taps = s.taps ∧
    s.applyThreshold.urgent = s.urgent ∧ s.applyThreshold.bulk = s.bulk ∧ s.applyThreshold.sweep = s.sweep ∧
    s.applyThreshold.scopes = s.scopes ∧ s.applyThreshold.legs = s.legs ∧ s.applyThreshold.link = s.link ∧
    s.applyThreshold.elements.map Prod.fst = s.elements.map Prod.fst ∧ s.applyThreshold.topo = s.topo ∧
    s.applyThreshold.clock = s.clock ∧ s.applyThreshold.announced = s.announced ∧ s.applyThreshold.billing = s.billing ∧
    s.applyThreshold.inputs = s.inputs ∧ s.applyThreshold.free = s.free ∧ s.applyThreshold.pending = s.pending := by
  unfold State.applyThreshold
  and_intros
  · exact foldl_keep State.port (fun s d => foldl_keep State.port (by simp) _ s) _ _
  · exact foldl_keep State.mode (fun s d => foldl_keep State.mode (by simp) _ s) _ _
  · exact foldl_keep State.subs (fun s d => foldl_keep State.subs (by simp) _ s) _ _
  · exact foldl_keep State.accounts (fun s d => foldl_keep State.accounts (by simp) _ s) _ _
  · exact foldl_keep State.slots (fun s d => foldl_keep State.slots (by simp) _ s) _ _
  · exact foldl_keep State.tiers (fun s d => foldl_keep State.tiers (by simp) _ s) _ _
  · exact foldl_keep State.events (fun s d => foldl_keep State.events (by simp) _ s) _ _
  · exact foldl_keep State.darkThreshold (fun s d => foldl_keep State.darkThreshold (by simp) _ s) _ _
  · exact foldl_keep State.taps (fun s d => foldl_keep State.taps (by simp) _ s) _ _
  · exact foldl_keep State.urgent (fun s d => foldl_keep State.urgent (by simp) _ s) _ _
  · exact foldl_keep State.bulk (fun s d => foldl_keep State.bulk (by simp) _ s) _ _
  · exact foldl_keep State.sweep (fun s d => foldl_keep State.sweep (by simp) _ s) _ _
  · exact foldl_keep State.scopes (fun s d => foldl_keep State.scopes (by simp) _ s) _ _
  · exact foldl_keep State.legs (fun s d => foldl_keep State.legs (by simp) _ s) _ _
  · exact foldl_keep State.link (fun s d => foldl_keep State.link (by simp) _ s) _ _
  · exact foldl_keep (fun s : State => s.elements.map Prod.fst) (fun s d => foldl_keep (fun s : State => s.elements.map Prod.fst) (by simp) _ s) _ _
  · exact foldl_keep State.topo (fun s d => foldl_keep State.topo (by simp) _ s) _ _
  · exact foldl_keep State.clock (fun s d => foldl_keep State.clock (by simp) _ s) _ _
  · exact foldl_keep State.announced (fun s d => foldl_keep State.announced (by simp) _ s) _ _
  · exact foldl_keep State.billing (fun s d => foldl_keep State.billing (by simp) _ s) _ _
  · exact foldl_keep State.inputs (fun s d => foldl_keep State.inputs (by simp) _ s) _ _
  · exact foldl_keep State.free (fun s d => foldl_keep State.free (by simp) _ s) _ _
  · exact foldl_keep State.pending (fun s d => foldl_keep State.pending (by simp) _ s) _ _

@[simp] theorem State.retestLevels_frame (s : State) (old : Nat) :
    (s.retestLevels old).port = s.port ∧ (s.retestLevels old).mode = s.mode ∧ (s.retestLevels old).subs = s.subs ∧
    (s.retestLevels old).accounts = s.accounts ∧ (s.retestLevels old).slots = s.slots ∧ (s.retestLevels old).tiers = s.tiers ∧
    (s.retestLevels old).events = s.events ∧ (s.retestLevels old).darkThreshold = s.darkThreshold ∧
    (s.retestLevels old).taps = s.taps ∧ (s.retestLevels old).urgent = s.urgent ∧ (s.retestLevels old).bulk = s.bulk ∧
    (s.retestLevels old).sweep = s.sweep ∧ (s.retestLevels old).scopes = s.scopes ∧ (s.retestLevels old).legs = s.legs ∧
    (s.retestLevels old).link = s.link ∧ (s.retestLevels old).elements = s.elements ∧ (s.retestLevels old).topo = s.topo ∧
    (s.retestLevels old).clock = s.clock ∧ (s.retestLevels old).announced = s.announced ∧
    (s.retestLevels old).billing = s.billing ∧ (s.retestLevels old).inputs = s.inputs ∧ (s.retestLevels old).free = s.free ∧
    (s.retestLevels old).pending = s.pending := by
  unfold State.retestLevels
  and_intros
  · simpa using foldl_keep State.port (by simp) _ _
  · simpa using foldl_keep State.mode (by simp) _ _
  · simpa using foldl_keep State.subs (by simp) _ _
  · simpa using foldl_keep State.accounts (by simp) _ _
  · simpa using foldl_keep State.slots (by simp) _ _
  · simpa using foldl_keep State.tiers (by simp) _ _
  · simpa using foldl_keep State.events (by simp) _ _
  · simpa using foldl_keep State.darkThreshold (by simp) _ _
  · simpa using foldl_keep State.taps (by simp) _ _
  · simpa using foldl_keep State.urgent (by simp) _ _
  · simpa using foldl_keep State.bulk (by simp) _ _
  · simpa using foldl_keep State.sweep (by simp) _ _
  · simpa using foldl_keep State.scopes (by simp) _ _
  · simpa using foldl_keep State.legs (by simp) _ _
  · simpa using foldl_keep State.link (by simp) _ _
  · simpa using foldl_keep State.elements (by simp) _ _
  · simpa using foldl_keep State.topo (by simp) _ _
  · simpa using foldl_keep State.clock (by simp) _ _
  · simpa using foldl_keep State.announced (by simp) _ _
  · simpa using foldl_keep State.billing (by simp) _ _
  · simpa using foldl_keep State.inputs (by simp) _ _
  · simpa using foldl_keep State.free (by simp) _ _
  · simpa using foldl_keep State.pending (by simp) _ _

@[simp] theorem State.endIf_frame (s : State) (b : Bool) (k : AlarmKind) (subject : Nat) :
    (s.endIf b k subject).port = s.port ∧ (s.endIf b k subject).mode = s.mode ∧ (s.endIf b k subject).subs = s.subs ∧
    (s.endIf b k subject).accounts = s.accounts ∧ (s.endIf b k subject).slots = s.slots ∧
    (s.endIf b k subject).tiers = s.tiers ∧ (s.endIf b k subject).events = s.events ∧
    (s.endIf b k subject).darkThreshold = s.darkThreshold ∧ (s.endIf b k subject).taps = s.taps ∧
    (s.endIf b k subject).urgent = s.urgent ∧ (s.endIf b k subject).bulk = s.bulk ∧ (s.endIf b k subject).sweep = s.sweep ∧
    (s.endIf b k subject).scopes = s.scopes ∧ (s.endIf b k subject).legs = s.legs ∧ (s.endIf b k subject).link = s.link ∧
    (s.endIf b k subject).elements = s.elements ∧ (s.endIf b k subject).topo = s.topo ∧ (s.endIf b k subject).clock = s.clock ∧
    (s.endIf b k subject).announced = s.announced ∧ (s.endIf b k subject).billing = s.billing ∧
    (s.endIf b k subject).inputs = s.inputs ∧ (s.endIf b k subject).free = s.free ∧
    (s.endIf b k subject).pending = s.pending := by
  unfold State.endIf
  (repeat' split) <;> simp

@[simp] theorem State.endConditions_frame (s : State) (e : Nat) (x : Element) :
    (s.endConditions e x).port = s.port ∧ (s.endConditions e x).mode = s.mode ∧ (s.endConditions e x).subs = s.subs ∧
    (s.endConditions e x).accounts = s.accounts ∧ (s.endConditions e x).slots = s.slots ∧
    (s.endConditions e x).tiers = s.tiers ∧ (s.endConditions e x).events = s.events ∧
    (s.endConditions e x).darkThreshold = s.darkThreshold ∧ (s.endConditions e x).taps = s.taps ∧
    (s.endConditions e x).urgent = s.urgent ∧ (s.endConditions e x).bulk = s.bulk ∧ (s.endConditions e x).sweep = s.sweep ∧
    (s.endConditions e x).scopes = s.scopes ∧ (s.endConditions e x).legs = s.legs ∧ (s.endConditions e x).link = s.link ∧
    (s.endConditions e x).elements = s.elements ∧ (s.endConditions e x).topo = s.topo ∧ (s.endConditions e x).clock = s.clock ∧
    (s.endConditions e x).announced = s.announced ∧ (s.endConditions e x).billing = s.billing ∧
    (s.endConditions e x).inputs = s.inputs ∧ (s.endConditions e x).free = s.free ∧
    (s.endConditions e x).pending = s.pending := by
  simp [State.endConditions]

@[simp] theorem State.eventBoundary_frame (s : State) (n id : Nat) :
    (s.eventBoundary n id).port = s.port ∧ (s.eventBoundary n id).mode = s.mode ∧ (s.eventBoundary n id).subs = s.subs ∧
    (s.eventBoundary n id).accounts = s.accounts ∧ (s.eventBoundary n id).slots = s.slots ∧
    (s.eventBoundary n id).tiers = s.tiers ∧ (s.eventBoundary n id).events.map Prod.fst = s.events.map Prod.fst ∧
    (s.eventBoundary n id).darkThreshold = s.darkThreshold ∧ (s.eventBoundary n id).taps.map Prod.fst = s.taps.map Prod.fst ∧
    (s.eventBoundary n id).urgent = s.urgent ∧ (s.eventBoundary n id).bulk = s.bulk ∧ (s.eventBoundary n id).legs = s.legs ∧
    (s.eventBoundary n id).link = s.link ∧ (s.eventBoundary n id).elements = s.elements ∧ (s.eventBoundary n id).topo = s.topo ∧
    (s.eventBoundary n id).clock = s.clock ∧ (s.eventBoundary n id).announced = s.announced ∧
    (s.eventBoundary n id).billing = s.billing ∧ (s.eventBoundary n id).inputs = s.inputs ∧
    (s.eventBoundary n id).alarms = s.alarms ∧ (s.eventBoundary n id).free = s.free ∧
    (s.eventBoundary n id).pending = s.pending := by
  unfold State.eventBoundary
  dsimp only
  (repeat' split) <;> simp

@[simp] theorem State.walkVisit_frame (s : State) (id price i : Nat) (b : Bool) :
    (s.walkVisit id price i b).port = s.port ∧ (s.walkVisit id price i b).mode = s.mode ∧
    (s.walkVisit id price i b).subs.map Prod.fst = s.subs.map Prod.fst ∧ (s.walkVisit id price i b).accounts = s.accounts ∧
    (s.walkVisit id price i b).slots = s.slots ∧ (s.walkVisit id price i b).tiers = s.tiers ∧
    (s.walkVisit id price i b).events = s.events ∧ (s.walkVisit id price i b).darkThreshold = s.darkThreshold ∧
    (s.walkVisit id price i b).taps.map Prod.fst = s.taps.map Prod.fst ∧ (s.walkVisit id price i b).sweep = s.sweep ∧
    (s.walkVisit id price i b).scopes = s.scopes ∧ (s.walkVisit id price i b).legs = s.legs ∧
    (s.walkVisit id price i b).link = s.link ∧ (s.walkVisit id price i b).elements = s.elements ∧
    (s.walkVisit id price i b).topo = s.topo ∧ (s.walkVisit id price i b).clock = s.clock ∧
    (s.walkVisit id price i b).announced = s.announced ∧ (s.walkVisit id price i b).billing = s.billing ∧
    (s.walkVisit id price i b).inputs = s.inputs ∧ (s.walkVisit id price i b).free = s.free ∧
    (s.walkVisit id price i b).pending = s.pending := by
  unfold State.walkVisit
  (repeat' split) <;> simp

@[simp] theorem State.refundAll_frame (s : State) (id price : Nat) :
    (s.refundAll id price).port = s.port ∧ (s.refundAll id price).mode = s.mode ∧
    (s.refundAll id price).subs.map Prod.fst = s.subs.map Prod.fst ∧ (s.refundAll id price).accounts = s.accounts ∧
    (s.refundAll id price).slots = s.slots ∧ (s.refundAll id price).tiers = s.tiers ∧ (s.refundAll id price).events = s.events ∧
    (s.refundAll id price).darkThreshold = s.darkThreshold ∧ (s.refundAll id price).taps.map Prod.fst = s.taps.map Prod.fst ∧
    (s.refundAll id price).sweep = s.sweep ∧ (s.refundAll id price).scopes = s.scopes ∧ (s.refundAll id price).legs = s.legs ∧
    (s.refundAll id price).link = s.link ∧ (s.refundAll id price).elements = s.elements ∧ (s.refundAll id price).topo = s.topo ∧
    (s.refundAll id price).clock = s.clock ∧ (s.refundAll id price).announced = s.announced ∧
    (s.refundAll id price).billing = s.billing ∧ (s.refundAll id price).inputs = s.inputs ∧
    (s.refundAll id price).pending = s.pending := by
  unfold State.refundAll
  and_intros
  · simpa using foldl_keep State.port (by simp) _ _
  · simpa using foldl_keep State.mode (by simp) _ _
  · simpa using foldl_keep (fun s : State => s.subs.map Prod.fst) (by simp) _ _
  · simpa using foldl_keep State.accounts (by simp) _ _
  · simpa using foldl_keep State.slots (by simp) _ _
  · simpa using foldl_keep State.tiers (by simp) _ _
  · simpa using foldl_keep State.events (by simp) _ _
  · simpa using foldl_keep State.darkThreshold (by simp) _ _
  · simpa using foldl_keep (fun s : State => s.taps.map Prod.fst) (by simp) _ _
  · simpa using foldl_keep State.sweep (by simp) _ _
  · simpa using foldl_keep State.scopes (by simp) _ _
  · simpa using foldl_keep State.legs (by simp) _ _
  · simpa using foldl_keep State.link (by simp) _ _
  · simpa using foldl_keep State.elements (by simp) _ _
  · simpa using foldl_keep State.topo (by simp) _ _
  · simpa using foldl_keep State.clock (by simp) _ _
  · simpa using foldl_keep State.announced (by simp) _ _
  · simpa using foldl_keep State.billing (by simp) _ _
  · simpa using foldl_keep State.inputs (by simp) _ _
  · simpa using foldl_keep State.pending (by simp) _ _

@[simp] theorem State.contactChanged_frame (s : State) (input : Nat) (x : Input) (l : Level) :
    (s.contactChanged input x l).port = s.port ∧ (s.contactChanged input x l).mode = s.mode ∧
    (s.contactChanged input x l).subs = s.subs ∧ (s.contactChanged input x l).accounts = s.accounts ∧
    (s.contactChanged input x l).slots.length = s.slots.length ∧ (s.contactChanged input x l).tiers = s.tiers ∧
    (s.contactChanged input x l).events = s.events ∧ (s.contactChanged input x l).darkThreshold = s.darkThreshold ∧
    (s.contactChanged input x l).taps = s.taps ∧ (s.contactChanged input x l).urgent = s.urgent ∧
    (s.contactChanged input x l).bulk = s.bulk ∧ (s.contactChanged input x l).sweep = s.sweep ∧
    (s.contactChanged input x l).scopes = s.scopes ∧ (s.contactChanged input x l).legs = s.legs ∧
    (s.contactChanged input x l).link = s.link ∧ (s.contactChanged input x l).elements = s.elements ∧
    (s.contactChanged input x l).topo = s.topo ∧ (s.contactChanged input x l).clock = s.clock ∧
    (s.contactChanged input x l).announced = s.announced ∧ (s.contactChanged input x l).billing = s.billing ∧
    (s.contactChanged input x l).inputs.length = s.inputs.length ∧ (s.contactChanged input x l).free = s.free ∧
    (s.contactChanged input x l).pending = s.pending := by
  unfold State.contactChanged
  (repeat' split) <;> simp

@[simp] theorem State.takeLevel_frame (s : State) (input : Nat) (x : Input) :
    (s.takeLevel input x).port = s.port ∧ (s.takeLevel input x).mode = s.mode ∧ (s.takeLevel input x).subs = s.subs ∧
    (s.takeLevel input x).accounts = s.accounts ∧ (s.takeLevel input x).slots.length = s.slots.length ∧
    (s.takeLevel input x).tiers = s.tiers ∧ (s.takeLevel input x).events = s.events ∧
    (s.takeLevel input x).darkThreshold = s.darkThreshold ∧ (s.takeLevel input x).taps = s.taps ∧
    (s.takeLevel input x).urgent = s.urgent ∧ (s.takeLevel input x).bulk = s.bulk ∧ (s.takeLevel input x).sweep = s.sweep ∧
    (s.takeLevel input x).scopes = s.scopes ∧ (s.takeLevel input x).legs = s.legs ∧ (s.takeLevel input x).link = s.link ∧
    (s.takeLevel input x).elements = s.elements ∧ (s.takeLevel input x).topo = s.topo ∧ (s.takeLevel input x).clock = s.clock ∧
    (s.takeLevel input x).announced = s.announced ∧ (s.takeLevel input x).billing = s.billing ∧
    (s.takeLevel input x).inputs.length = s.inputs.length ∧ (s.takeLevel input x).free = s.free ∧
    (s.takeLevel input x).pending = s.pending := by
  simp [State.takeLevel]

@[simp] theorem State.endStanding_frame (s : State) (input : Nat) (x : Input) :
    (s.endStanding input x).port = s.port ∧ (s.endStanding input x).mode = s.mode ∧ (s.endStanding input x).subs = s.subs ∧
    (s.endStanding input x).accounts = s.accounts ∧ (s.endStanding input x).slots = s.slots ∧
    (s.endStanding input x).tiers = s.tiers ∧ (s.endStanding input x).events = s.events ∧
    (s.endStanding input x).darkThreshold = s.darkThreshold ∧ (s.endStanding input x).taps = s.taps ∧
    (s.endStanding input x).urgent = s.urgent ∧ (s.endStanding input x).bulk = s.bulk ∧
    (s.endStanding input x).sweep = s.sweep ∧ (s.endStanding input x).scopes = s.scopes ∧
    (s.endStanding input x).legs = s.legs ∧ (s.endStanding input x).link = s.link ∧
    (s.endStanding input x).elements = s.elements ∧ (s.endStanding input x).topo = s.topo ∧
    (s.endStanding input x).clock = s.clock ∧ (s.endStanding input x).announced = s.announced ∧
    (s.endStanding input x).billing = s.billing ∧ (s.endStanding input x).inputs.length = s.inputs.length ∧
    (s.endStanding input x).free = s.free ∧ (s.endStanding input x).pending = s.pending := by
  unfold State.endStanding
  (repeat' split) <;> simp

@[simp] theorem State.dropOtherType_frame (s : State) (input : Nat) (x : AlarmType) :
    (s.dropOtherType input x).port = s.port ∧ (s.dropOtherType input x).mode = s.mode ∧
    (s.dropOtherType input x).subs = s.subs ∧ (s.dropOtherType input x).accounts = s.accounts ∧
    (s.dropOtherType input x).slots = s.slots ∧ (s.dropOtherType input x).tiers = s.tiers ∧
    (s.dropOtherType input x).events = s.events ∧ (s.dropOtherType input x).darkThreshold = s.darkThreshold ∧
    (s.dropOtherType input x).taps = s.taps ∧ (s.dropOtherType input x).urgent = s.urgent ∧
    (s.dropOtherType input x).bulk = s.bulk ∧ (s.dropOtherType input x).sweep = s.sweep ∧
    (s.dropOtherType input x).scopes = s.scopes ∧ (s.dropOtherType input x).legs = s.legs ∧
    (s.dropOtherType input x).link = s.link ∧ (s.dropOtherType input x).elements = s.elements ∧
    (s.dropOtherType input x).topo = s.topo ∧ (s.dropOtherType input x).clock = s.clock ∧
    (s.dropOtherType input x).announced = s.announced ∧ (s.dropOtherType input x).billing = s.billing ∧
    (s.dropOtherType input x).inputs = s.inputs ∧ (s.dropOtherType input x).free = s.free ∧
    (s.dropOtherType input x).pending = s.pending := by
  unfold State.dropOtherType
  (repeat' split) <;> simp

@[simp] theorem State.leaveCarrier_frame (s : State) (input : Nat) (x : Input) :
    (s.leaveCarrier input x).port = s.port ∧ (s.leaveCarrier input x).mode = s.mode ∧ (s.leaveCarrier input x).subs = s.subs ∧
    (s.leaveCarrier input x).accounts = s.accounts ∧ (s.leaveCarrier input x).slots.length = s.slots.length ∧
    (s.leaveCarrier input x).tiers = s.tiers ∧ (s.leaveCarrier input x).events = s.events ∧
    (s.leaveCarrier input x).darkThreshold = s.darkThreshold ∧ (s.leaveCarrier input x).taps = s.taps ∧
    (s.leaveCarrier input x).urgent = s.urgent ∧ (s.leaveCarrier input x).bulk = s.bulk ∧
    (s.leaveCarrier input x).sweep = s.sweep ∧ (s.leaveCarrier input x).scopes = s.scopes ∧
    (s.leaveCarrier input x).legs = s.legs ∧ (s.leaveCarrier input x).link = s.link ∧
    (s.leaveCarrier input x).elements = s.elements ∧ (s.leaveCarrier input x).topo = s.topo ∧
    (s.leaveCarrier input x).clock = s.clock ∧ (s.leaveCarrier input x).announced = s.announced ∧
    (s.leaveCarrier input x).billing = s.billing ∧ (s.leaveCarrier input x).inputs.length = s.inputs.length ∧
    (s.leaveCarrier input x).free = s.free ∧ (s.leaveCarrier input x).pending = s.pending := by
  unfold State.leaveCarrier
  (repeat' split) <;> simp

@[simp] theorem State.applyConfig_frame (s : State) (input : Nat) (x : Input) (c : Role × Nat × Sense × Nat) :
    (s.applyConfig input x c).port = s.port ∧ (s.applyConfig input x c).mode = s.mode ∧
    (s.applyConfig input x c).subs = s.subs ∧ (s.applyConfig input x c).accounts = s.accounts ∧
    (s.applyConfig input x c).slots.length = s.slots.length ∧ (s.applyConfig input x c).tiers = s.tiers ∧
    (s.applyConfig input x c).events = s.events ∧ (s.applyConfig input x c).darkThreshold = s.darkThreshold ∧
    (s.applyConfig input x c).taps = s.taps ∧ (s.applyConfig input x c).urgent = s.urgent ∧
    (s.applyConfig input x c).bulk = s.bulk ∧ (s.applyConfig input x c).sweep = s.sweep ∧
    (s.applyConfig input x c).scopes = s.scopes ∧ (s.applyConfig input x c).legs = s.legs ∧
    (s.applyConfig input x c).link = s.link ∧ (s.applyConfig input x c).elements = s.elements ∧
    (s.applyConfig input x c).topo = s.topo ∧ (s.applyConfig input x c).clock = s.clock ∧
    (s.applyConfig input x c).announced = s.announced ∧ (s.applyConfig input x c).billing = s.billing ∧
    (s.applyConfig input x c).inputs.length = s.inputs.length ∧ (s.applyConfig input x c).free = s.free ∧
    (s.applyConfig input x c).pending = s.pending := by
  unfold State.applyConfig
  (repeat' split) <;> simp

@[simp] theorem State.configure_frame (s : State) (input : Nat) (x : Input) (c : Role × Nat × Sense × Nat) :
    (s.configure input x c).port = s.port ∧ (s.configure input x c).mode = s.mode ∧ (s.configure input x c).subs = s.subs ∧
    (s.configure input x c).accounts = s.accounts ∧ (s.configure input x c).slots.length = s.slots.length ∧
    (s.configure input x c).tiers = s.tiers ∧ (s.configure input x c).events = s.events ∧
    (s.configure input x c).darkThreshold = s.darkThreshold ∧ (s.configure input x c).taps = s.taps ∧
    (s.configure input x c).urgent = s.urgent ∧ (s.configure input x c).bulk = s.bulk ∧
    (s.configure input x c).sweep = s.sweep ∧ (s.configure input x c).scopes = s.scopes ∧
    (s.configure input x c).legs = s.legs ∧ (s.configure input x c).link = s.link ∧
    (s.configure input x c).elements = s.elements ∧ (s.configure input x c).topo = s.topo ∧
    (s.configure input x c).clock = s.clock ∧ (s.configure input x c).announced = s.announced ∧
    (s.configure input x c).billing = s.billing ∧ (s.configure input x c).inputs.length = s.inputs.length ∧
    (s.configure input x c).free = s.free ∧ (s.configure input x c).pending = s.pending := by
  unfold State.configure
  (repeat' split) <;> simp

@[simp] theorem State.raiseAnew_frame (s : State) :
    s.raiseAnew.port = s.port ∧ s.raiseAnew.mode = s.mode ∧ s.raiseAnew.subs = s.subs ∧ s.raiseAnew.accounts = s.accounts ∧
    s.raiseAnew.slots = s.slots ∧ s.raiseAnew.tiers = s.tiers ∧ s.raiseAnew.events = s.events ∧
    s.raiseAnew.darkThreshold = s.darkThreshold ∧ s.raiseAnew.taps = s.taps ∧ s.raiseAnew.urgent = s.urgent ∧
    s.raiseAnew.bulk = s.bulk ∧ s.raiseAnew.sweep = s.sweep ∧ s.raiseAnew.scopes = s.scopes ∧ s.raiseAnew.legs = s.legs ∧
    s.raiseAnew.link = s.link ∧ s.raiseAnew.elements = s.elements ∧ s.raiseAnew.topo = s.topo ∧ s.raiseAnew.clock = s.clock ∧
    s.raiseAnew.announced = s.announced ∧ s.raiseAnew.billing = s.billing ∧ s.raiseAnew.inputs = s.inputs ∧
    s.raiseAnew.pending = s.pending := by
  unfold State.raiseAnew
  and_intros
  · simpa using foldl_keep State.port (by simp) _ _
  · simpa using foldl_keep State.mode (by simp) _ _
  · simpa using foldl_keep State.subs (by simp) _ _
  · simpa using foldl_keep State.accounts (by simp) _ _
  · simpa using foldl_keep State.slots (by simp) _ _
  · simpa using foldl_keep State.tiers (by simp) _ _
  · simpa using foldl_keep State.events (by simp) _ _
  · simpa using foldl_keep State.darkThreshold (by simp) _ _
  · simpa using foldl_keep State.taps (by simp) _ _
  · simpa using foldl_keep State.urgent (by simp) _ _
  · simpa using foldl_keep State.bulk (by simp) _ _
  · simpa using foldl_keep State.sweep (by simp) _ _
  · simpa using foldl_keep State.scopes (by simp) _ _
  · simpa using foldl_keep State.legs (by simp) _ _
  · simpa using foldl_keep State.link (by simp) _ _
  · simpa using foldl_keep State.elements (by simp) _ _
  · simpa using foldl_keep State.topo (by simp) _ _
  · simpa using foldl_keep State.clock (by simp) _ _
  · simpa using foldl_keep State.announced (by simp) _ _
  · simpa using foldl_keep State.billing (by simp) _ _
  · simpa using foldl_keep State.inputs (by simp) _ _
  · simpa using foldl_keep State.pending (by simp) _ _

end Sys2Proof.Machine
end

