-- ==== Sys2Proof/Laws/Reception.lean ====
section
/-! SUPPORT. R69, R70: what the receiver of a leg does with the characters of a reception, said once. -/

namespace Sys2Proof.Machine

/-- A change of a leg that is there is a replacement of it. -/
theorem State.updLeg_of_leg {s : State} {leg : Nat} {l : Leg} (h : s.legs[leg]? = some l) (f : Leg → Leg) :
    s.updLeg leg f = { s with legs := s.legs.set leg (f l) } := by
  obtain ⟨hn, rfl⟩ := List.getElem?_eq_some_iff.mp h
  simp [State.updLeg, List.modify_eq_set_getElem?, hn]

/-- A leg put back in its place changes nothing. -/
theorem State.set_leg_self {s : State} {leg : Nat} {l : Leg} (h : s.legs[leg]? = some l) : { s with legs := s.legs.set leg l } = s := by
  obtain ⟨hn, rfl⟩ := List.getElem?_eq_some_iff.mp h
  rw [List.set_getElem_self]

/-- R69: a character that comes to a leg that is not AWAITING, or whose try timer has run out, is discarded. -/
theorem State.receiveChar_of_not_awaiting {s : State} {leg : Nat} {l : Leg} (h : s.legs[leg]? = some l)
    (ha : l.activity ≠ .awaiting ∨ l.tryTimer = 0) (c : Byte) : State.receiveChar leg s c = s := by
  unfold State.receiveChar
  rw [h]
  cases hw : l.txn with
  | none => simp [hw]
  | some w => rcases ha with ha | ha <;> simp [hw, ha]

/-- R69, R70: a character that comes to an AWAITING leg joins the frame held, and a frame that it completes or ends is judged. -/
theorem State.receiveChar_of_awaiting {s : State} {leg : Nat} {l : Leg} {w : Transaction} (h : s.legs[leg]? = some l)
    (ha : l.activity = .awaiting) (ht : l.tryTimer ≠ 0) (hw : l.txn = some w) (c : Byte) :
    State.receiveChar leg s c =
      if assembled (taken l.rx c) = .incomplete then { s with legs := s.legs.set leg { l with rx := taken l.rx c } }
      else ({ s with legs := s.legs.set leg { l with rx := [] } } : State).judge leg l.tag w (assembled (taken l.rx c)) := by
  unfold State.receiveChar State.assembly State.hold
  simp [h, hw, ha, ht, State.updLeg_of_leg h]

/-- R69: characters that begin or continue a frame and do not end it are held. -/
theorem State.receive_incomplete (leg : Nat) (w : Transaction) : ∀ (cs : List Byte) (s : State) (l : Leg), s.legs[leg]? = some l →
    l.activity = .awaiting → l.tryTimer ≠ 0 → l.txn = some w → l.rx ≠ [] ∨ cs.head? = some syncChar →
    (∀ n, 0 < n → n ≤ cs.length → assembled (l.rx ++ cs.take n) = .incomplete) →
    cs.foldl (State.receiveChar leg) s = { s with legs := s.legs.set leg { l with rx := l.rx ++ cs } } := by
  intro cs
  induction cs with
  | nil =>
    intro s l h _ _ _ _ _
    rw [List.append_nil, List.foldl_nil, State.set_leg_self h]
  | cons c cs ih =>
    intro s l h ha ht hw hr hn
    have hc : taken l.rx c = l.rx ++ [c] := by
      unfold taken
      rcases hr with hr | hr
      · cases hl : l.rx <;> simp_all
      · simp at hr; simp [hr]
    have h1 : assembled (l.rx ++ [c]) = .incomplete := by simpa using hn 1 (by omega) (by simp)
    have hl := (List.getElem?_eq_some_iff.mp h).1
    rw [List.foldl_cons, State.receiveChar_of_awaiting h ha ht hw, hc, if_pos h1,
      ih _ { l with rx := l.rx ++ [c] } (by simp [hl]) ha ht hw (.inl (by simp))
        (fun n h2 h3 => by simpa using hn (n + 1) (by omega) (by simpa using h3))]
    simp

/-- R69, R70: a frame that comes whole to an AWAITING leg that holds none of another is judged once, at its last character. -/
theorem State.receive_frame {s : State} {leg : Nat} {l : Leg} {w : Transaction} (h : s.legs[leg]? = some l)
    (ha : l.activity = .awaiting) (ht : l.tryTimer ≠ 0) (hw : l.txn = some w) (hrx : l.rx = []) {cs : List Byte} {c : Byte}
    (hs : cs.head? = some syncChar) (hn : ∀ n, 0 < n → n ≤ cs.length → assembled (cs.take n) = .incomplete)
    (hf : assembled (cs ++ [c]) ≠ .incomplete) :
    (cs ++ [c]).foldl (State.receiveChar leg) s = s.judge leg l.tag w (assembled (cs ++ [c])) := by
  have hl := (List.getElem?_eq_some_iff.mp h).1
  have hc : taken cs c = cs ++ [c] := by unfold taken; cases cs <;> simp_all
  have h0 : { s with legs := s.legs.set leg { l with rx := [] } } = s := by rw [← hrx]; exact State.set_leg_self h
  rw [List.foldl_append, State.receive_incomplete leg w cs s l h ha ht hw (.inr hs) (by simpa [hrx] using hn), hrx, List.nil_append,
    List.foldl_cons, List.foldl_nil, State.receiveChar_of_awaiting (l := { l with rx := cs }) (by simp [hl]) ha ht hw]
  simp [hc, hf, h0]

end Sys2Proof.Machine
end

