-- ==== Sys2Proof/Laws/Requests.lean ====
section
/-! SUPPORT. What the Request Port does with a request frame, said once for all 64 requests: ignored, discarded, refused by the common tests, or
served by its owner. -/

namespace Sys2Proof.Machine

variable {length : Nat} {modes : Modes} {body : List Byte} {owner : State → Served} {s : State}

/-- Every field but the port is untouched by the acceptance and the answer. -/
@[simp] theorem State.replied_frame (s : State) (n : Nat) (r : Response) :
    (s.replied n r).mode = s.mode ∧ (s.replied n r).subs = s.subs ∧ (s.replied n r).accounts = s.accounts ∧
    (s.replied n r).slots = s.slots ∧ (s.replied n r).tiers = s.tiers ∧ (s.replied n r).events = s.events ∧
    (s.replied n r).darkThreshold = s.darkThreshold ∧ (s.replied n r).taps = s.taps ∧ (s.replied n r).urgent = s.urgent ∧
    (s.replied n r).bulk = s.bulk ∧ (s.replied n r).sweep = s.sweep ∧ (s.replied n r).scopes = s.scopes ∧
    (s.replied n r).legs = s.legs ∧ (s.replied n r).link = s.link ∧ (s.replied n r).elements = s.elements ∧
    (s.replied n r).topo = s.topo ∧ (s.replied n r).clock = s.clock ∧ (s.replied n r).announced = s.announced ∧
    (s.replied n r).billing = s.billing ∧ (s.replied n r).inputs = s.inputs ∧ (s.replied n r).alarms = s.alarms ∧
    (s.replied n r).free = s.free ∧ (s.replied n r).pending = s.pending := by
  simp [State.replied]

theorem request_ignored (h : s.port.selectIgnored = true) : request length modes body owner s = s.endIgnoredSelect := by
  simp [request, h]

theorem request_serving (h : s.port.selectIgnored = false) (hs : s.port.state = .serving) :
    request length modes body owner s = s.discardFrame body.length := by
  simp [request, h, hs]

/-- An accepted request: the common tests, then the owner; the reply. -/
theorem request_listening (h : s.listening) :
    request length modes body owner s =
      (commonTests length modes body owner s).1.replied body.length (commonTests length modes body owner s).2 := by
  obtain ⟨h1, h2⟩ := h
  simp [request, h1, h2, State.replied, State.acceptFrame, State.answer, zeros]

theorem request_badLength (h : s.listening) (hb : body.length ≠ length) :
    request length modes body owner s = s.replied body.length ⟨.badLength, []⟩ := by
  rw [request_listening h]; simp [commonTests, hb, State.refuse, refusal]

theorem request_wrongMode (h : s.listening) (hb : body.length = length) (hm : modes.allow s.mode = false) :
    request length modes body owner s = s.replied length ⟨.wrongMode, []⟩ := by
  rw [request_listening h]; simp [commonTests, hb, hm, State.refuse, refusal]

/-- A request that passes the common tests is its owner's. -/
theorem request_owner (h : s.listening) (hb : body.length = length) (hm : modes.allow s.mode = true) :
    request length modes body owner s = (owner s).1.replied length (owner s).2 := by
  rw [request_listening h]; simp [commonTests, hb, hm]

theorem request_owner_both (h : s.listening) (hb : body.length = length) :
    request length .both body owner s = (owner s).1.replied length (owner s).2 := request_owner h hb rfl

/-- A request that names an account in the table is dealt with on its record. -/
theorem State.withAccount_holds {a i : Nat} {r : Subscriber} (h : s.holds a i r) (rest : Nat → Subscriber → Served) :
    s.withAccount a rest = rest i r := by
  obtain ⟨_, h1, h2⟩ := h
  simp [State.withAccount, State.findAccount, h1, h2]

/-- A request that names an account that is not in the account index is answered NOT_FOUND. -/
theorem State.withAccount_none {a : Nat} (h : s.accounts.get? a = none) (rest : Nat → Subscriber → Served) :
    s.withAccount a rest = s.refuse .notFound := by
  simp [State.withAccount, State.findAccount, h]

/-- In a table in canonical form, an update of a record is its replacement. -/
theorem State.updSub_holds {a i : Nat} {r : Subscriber} (h : s.holds a i r) (f : Subscriber → Subscriber) :
    s.updSub i f = s.withSub i (f r) := by
  obtain ⟨hw, _, h2⟩ := h
  simp [State.updSub, State.withSub, Table.modify_eq_const hw h2 f]

end Sys2Proof.Machine
end

