-- ==== Sys2Proof/Tests/Slice0.lean ====
section
/-! SUPPORT. Tests of the model: the refusals of WellFormed, worked figures of the manual, and for every statement with hypotheses a witness: a
concrete state and operands that meet them, clause by clause, at boundary values. -/

namespace Sys2Proof.Tests

open Sys2Proof Sys2Proof.Machine

/-! ## WellFormed refuses an ill-formed command, for each check -/

theorem test_wf_body_too_long : (Instr.goLive (List.replicate 256 0#8)).wf = false := by decide +kernel
theorem test_wf_body_longest : (Instr.goLive (List.replicate 255 0#8)).wf = true := by decide +kernel
theorem test_wf_discarded_read_code : (Instr.requestFrameDiscarded 0#8 []).wf = false := by decide
theorem test_wf_unknown_code_is_known : (Instr.unknownRequest 0x01#8 []).wf = false := by decide
theorem test_wf_partial_is_complete : (Instr.partialFrameDiscarded [0x15#8, 0x01#8, 0x00#8]).wf = false := by decide
theorem test_wf_partial_is_cut : (Instr.partialFrameDiscarded [0x15#8, 0x02#8, 0x00#8]).wf = true := by decide
theorem test_wf_leg_reports : (Instr.returnFaultBegins 4 ⟨521, true⟩).wf = false ∧ (Instr.returnFaultEnds 3 ⟨521, false⟩).wf = true := by decide
theorem test_wf_cut : (Instr.frameCutShort ⟨3, 61⟩).wf = false ∧ (Instr.frameCutShort ⟨3, 60⟩).wf = true := by decide
theorem test_wf_leg : (Instr.legTakesWork 4).wf = false ∧ (Instr.legTakesWork 3).wf = true := by decide
theorem test_wf_input : (Instr.debounceTimerExpiry 32).wf = false ∧ (Instr.debounceTimerExpiry 31).wf = true := by decide
theorem test_wf_tap : (Instr.silentCountdownExpiry 512).wf = false ∧ (Instr.silentCountdownExpiry 511).wf = true := by decide
theorem test_wf_event : (Instr.endWalkVisit 0).wf = false ∧ (Instr.endWalkVisit 65535).wf = true := by decide

/-! ## A small part to test on -/

/-- The state after a command. -/
def after (c : Instr) (s : State) : State :=
  match exec c s with
  | .next t => t
  | .fault _ => s
  | .refused _ => s

/-- The answer a command leaves held for its response. -/
def answerTo (c : Instr) (s : State) : Option Response := (after c s).port.answer

/-- A record of account 1001 with tier 0. -/
def household (purse : Purse) (state : SubState) (tapPort : Option PortRef) : Subscriber :=
  { account := 1001, tapPort := tapPort, state := state, tiers := 1#16, purse := purse
    chargeAcc := 0, tierCarry := 0, creditAcc := 0, creditRem := 0, drawn := 0, returned := 0, eventCents := 0, refundCents := 0
    adjCents := 0, chargedMin := 0, creditedMin := 0, episode := none, purchases := [], slot := none, changed := false }

def element (address : Nat) (parent : Option Nat) (depth : Nat) (state : ElementState) : Element :=
  ⟨address, parent, 0, depth, state, 0, none, .unknown, none, false, false⟩

def tapOf (address feeding : Nat) (bound : Option Nat) : Tap :=
  ⟨address, feeding, ⟨bound, none⟩ :: List.replicate 3 ⟨none, none⟩, .inService, none, .closed, none, false⟩

def eventOf (state : EventState) : EventRec := ⟨5, 50, 60, 499, 10, state, 0, 0, none⟩

/-- In LIVE, with two elements on leg 0 and two taps. -/
def plant : State :=
  { State.reset with
    mode := .live
    elements := [(0, element 100 none 1 .up), (1, element 101 (some 0) 2 .up)]
    taps := [(0, tapOf 200 1 none), (511, tapOf 201 0 none)]
    billing := { Billing.reset with start := some 0, nextClose := some 43200 } }

/-- The plant with the household `r` at index 0, its tap port 1 of tap 0 bound to it where it has one. -/
def home (r : Subscriber) : State :=
  { plant with
    subs := [(0, r)], accounts := [(r.account, 0)]
    taps := [(0, tapOf 200 1 (if r.tapPort.isSome then some 0 else none)), (511, tapOf 201 0 none)] }

def bound : Option PortRef := some ⟨0, 1⟩

/-- Every record of a table has what all its entries have. -/
theorem all_records {α : Type} {t : Table α} {P : Nat → α → Prop} (h : ∀ p ∈ t, P p.1 p.2) (k : Nat) (x : α)
    (hx : t.get? k = some x) : P k x := h (k, x) (Table.mem_of_get? hx)

/-! ## Worked figures of the manual -/

/-- Section 11.3. -/
theorem test_crc_check_value :
    crc16 [0x31#8, 0x32#8, 0x33#8, 0x34#8, 0x35#8, 0x36#8, 0x37#8, 0x38#8, 0x39#8] = 0x29B1#16 := by decide +kernel

/-- Section 11.2: the request codes of one request of each family. -/
theorem test_codes : commandOfSelect [0x01#8, 0x00#8] = .goLive [] ∧
    commandOfSelect [0x18#8, 0x04#8, 0x00#8, 0x00#8, 0x03#8, 0xE9#8] = .activate [0x00#8, 0x00#8, 0x03#8, 0xE9#8] ∧
    commandOfSelect [0x26#8, 0x01#8, 0x0F#8] = .readTier [0x0F#8] ∧ commandOfSelect [0x34#8, 0x00#8] = .readSwitching [] ∧
    commandOfSelect [0x39#8, 0x02#8, 0x03#8, 0x01#8] = .readLeg [0x03#8, 0x01#8] ∧
    commandOfSelect [0x42#8, 0x01#8, 0x7F#8] = .readElement [0x7F#8] ∧ commandOfSelect [0x4B#8, 0x00#8] = .readClock [] ∧
    commandOfSelect [0x56#8, 0x00#8] = .readBilling [] ∧ commandOfSelect [0x61#8, 0x02#8, 0x00#8, 0x07#8] = .cancelEvent [0x00#8, 0x07#8] ∧
    commandOfSelect [0x71#8, 0x00#8] = .readInputs [] ∧ commandOfSelect [0x78#8, 0x01#8, 0x07#8] = .setAlarmMask [0x07#8] ∧
    commandOfSelect [0x00#8, 0x00#8, 0x00#8] = .readSelect 2 ∧ commandOfSelect [0x7F#8, 0x00#8] = .unknownRequest 0x7F#8 [] := by decide

/-- R171: RDY falls as a frame is accepted and rises with the response; the response of Read Clock in LOADING (section 11.2). -/
theorem test_request_and_response :
    (after (.readSelect 3) (after .responseReady (after (.withdrawStagedChange [0x00#8]) State.reset))).port.miso
      = [0x04#8, 0x00#8, 0x00#8] := by decide

/-- R67, section 4.1: TX rests at mark; keyed, it is at mark for ten bit times, then sends the sync character 0x96 as start bit, 0 1 1 0 1 0 0 1, stop bit. -/
theorem test_tx_levels :
    let l : Leg := { Leg.reset with txen := true, frame := [0x96#8] }
    (List.range 3).map Leg.reset.tx = [.high, .high, .high] ∧ (List.range 10).map l.tx = List.replicate 10 .high ∧
    (List.range 11).map (fun n => l.tx (10 + n)) = [.low, .low, .high, .high, .low, .high, .low, .low, .high, .high, .high] := by decide

/-- R83: of a frame cut short after its third character nothing more is sent, and TX is at mark. -/
theorem test_frame_cut_short :
    let s := { plant with legs := { Leg.reset with txen := true, frame := legFrame 101 0x02#8 6 [] } :: List.replicate 3 Leg.reset }
    (after (.frameCutShort ⟨0, 3⟩) s).legs.head?.map (fun l => (l.txen, l.frame)) = some (false, [0x96#8, 0x00#8, 0x65#8]) := by decide +kernel

/-- R177, R180: the response of Go Live gives two optional minutes, each with its presence byte. -/
theorem test_go_live_response :
    (after (.readSelect 13) (after .responseReady (after (.goLive []) State.reset))).port.miso
      = [0x00#8, 0x00#8, 0x0A#8, 0x01#8, 0x00#8, 0x00#8, 0x00#8, 0x00#8, 0x01#8, 0x00#8, 0x00#8, 0xA8#8, 0xC0#8] := by decide +kernel

/-- Section 7.9, minute 9: accumulator 41,960 at 5,245 a month draws one cent and keeps 4,005. -/
theorem test_prepaid_draw :
    let r := { household (.prepaid 3) .active none with chargeAcc := 41960 }
    (r.charged 5245).purse = .prepaid 2 ∧ (r.charged 5245).chargeAcc = 4005 := by decide

/-- Section 7.8: the close of account 51,206: tier 5,070 with 7,200 carried, credit 36 with 18,300, net 5,433. -/
theorem test_close_figures :
    let r := { household (.account 0 15000) .active none with
      chargeAcc := 219031200, creditAcc := 1573500, eventCents := 499, adjCents := -100 }
    r.tierCents = 5070 ∧ r.creditCents = 36 ∧ r.carriedOver.tierCarry = 7200 ∧ r.carriedOver.creditRem = 18300 ∧ r.netOf 5070 36 = 5433 := by
  decide

/-- R124, R5: the last cent of a prepaid balance is drawn and the household lapses with its changed flag. -/
theorem test_draw_lapses :
    let s := { home { household (.prepaid 1) .active none with chargeAcc := 43199 } with
      tiers := [⟨1, none, blankLabel⟩], billing := { Billing.reset with pass := some ⟨0, 0, none⟩ } }
    ((after .meteringVisit s).subs.get? 0).map (fun r => (r.state, r.changed, r.purse)) = some (.lapsed, true, .prepaid 0) := by decide

/-- R109, R113: at a phase of 1 s the crystal makes an edge, and the minute counter wraps. -/
theorem test_minute_wraps :
    (after .secondEdge { State.reset with clock := { TimeBase.reset with minute := 4294967295, second := 59, phase := 1000 } }).clock.minute = 0 := by decide

/-- R110: a pulse that comes with the crystal's edge restarts the phase, and the crystal makes no edge of its own. -/
theorem test_one_edge_of_two :
    let s := { State.reset with clock := { TimeBase.reset with second := 10, phase := 1000, ref := .tracking, lossTimer := some 1000 } }
    (after .secondEdge (after .referencePulse s)).clock.second = 11 ∧ (after .secondEdge s).clock.second = 11 := by decide

/-- R49: a bulk entry becomes urgent. -/
theorem test_need_promotes : ({ plant with bulk := [0, 511] }.need .urgent 0).urgent = [0] ∧
    ({ plant with bulk := [0, 511] }.need .urgent 0).bulk = [511] := by decide

/-- R95: an element at the miss threshold goes DOWN and its child is shadowed. -/
theorem test_down_shadows :
    let s := { plant with topo := ⟨1, 30⟩ }.applyMiss 0
    (s.elements.get? 0).map Element.state = some .down ∧ (s.elements.get? 1).map Element.state = some .shadowed ∧
    (s.alarms.table.map fun p => (p.2.kind, p.2.subject)) = [(.elementDown, 0)] := by decide

/-- R69, R70: a leg that awaits the reply to a poll drops the noise and a frame with another tag, then takes the reply, split over two commands. -/
theorem test_reply_after_noise :
    let leg := { Leg.reset with activity := .awaiting, txn := some ⟨.poll 1 false false, 101⟩, tryTimer := 9, tag := 7 }
    let s := { plant with legs := leg :: List.replicate 3 Leg.reset, elements := [(0, element 100 none 1 .up), (1, element 101 (some 0) 2 .suspect)] }
    let stale := legFrame 101 0x02#8 6 [0#8, 0#8]
    let reply := legFrame 101 0x02#8 7 [1#8, 5#8]
    let t := after (.replyFrameReceived 0 (reply.drop 4)) (after (.replyFrameReceived 0 ([0xFF#8] ++ stale ++ reply.take 4)) s)
    (t.elements.get? 1).map (fun x => (x.state, x.supply, x.level)) = some (.up, .battery, some 5) ∧
    (t.legs.map fun l => (l.counters.valid, l.counters.discarded)).head? = some (1, 1) := by decide +kernel

/-- R79, R85: at 19,200 bit/s a return fault begins after more than 520 µs at space, and a new bit rate restarts the measurement. -/
theorem test_fault_measurement :
    let s := after (.returnFaultBegins 0 ⟨520, true⟩) plant
    ((after (.returnFaultBegins 0 ⟨1, true⟩) s).legs.map (·.fault.isSome)).head? = some true ∧
    ((after (.returnFaultBegins 0 ⟨261, true⟩) (after (.setLinkParameters (w8 2 ++ w16 20 ++ w8 0 ++ w8 5 ++ w8 1)) s)).legs.map
      (·.fault.isSome)).head? = some true ∧
    ((after (.returnFaultBegins 0 ⟨260, true⟩) (after (.setLinkParameters (w8 2 ++ w16 20 ++ w8 0 ++ w8 5 ++ w8 1)) s)).legs.map
      (·.fault.isSome)).head? = some false := by decide

/-- R162, R163: a 129th alarm is refused and counted in the reserved place. -/
theorem test_overflow :
    let full : AlarmUnit := { AlarmUnit.reset with
      table := (List.range 128).map fun n => (alarmKey .tapSilent n, ⟨.tapSilent, n, .condition, .raised, 1, n + 1, ⟨0, 0⟩, ⟨0, 0⟩⟩), seq := 128 }
    (full.raise .tapTamper 3 .occurrence ⟨9, 0⟩).table.length = 128 ∧
    ((full.raise .tapTamper 3 .occurrence ⟨9, 0⟩).overflow.map Entry.seq) = some 129 := by decide +kernel


/-! ## Witnesses: the queue, reset and the invariants -/

theorem witness_StepRunsTheFrontCommand :
    { State.reset with clock := { TimeBase.reset with phase := 1000 } }.pending = [] ∧
    { State.reset with clock := { TimeBase.reset with phase := 1000 } }.eventDue = true ∧
    State.reset.pending = [] ∧ { State.reset with clock := { TimeBase.reset with phase := 999 } }.eventDue = false := by decide

theorem witness_HardResetRestoresEveryBlock : State.reset.inputs[31]? = some (Input.reset .high) := by decide

/-- The household on tap 0, whose command is in flight on leg 0; tap 511 is queued. -/
def busy : State :=
  { home (household (.prepaid 1) .active bound) with
    taps := [(0, { tapOf 200 1 (some 0) with origin := some .bulk }), (511, tapOf 201 0 none)]
    urgent := [511]
    legs := { Leg.reset with activity := .awaiting, txn := some ⟨.tap 0 1 .bulk (List.replicate 4 .off), 200⟩, tryTimer := 150, tag := 1 } ::
      List.replicate 3 Leg.reset
    pending := [.secondEdge] }

theorem busy_steps : ∃ t, step busy = .next t := ⟨_, rfl⟩

theorem busy_formed : busy.Formed := by constructor <;> decide

theorem plant_rooted : plant.Rooted := by
  refine ⟨fun e x h => ?_, all_records (P := fun _ (x : Element) => x.depth ≤ 16) (by decide)⟩
  have hm := Table.mem_of_get? h
  simp only [plant, List.mem_cons, Prod.mk.injEq, List.not_mem_nil, or_false] at hm
  obtain ⟨rfl, rfl⟩ | ⟨rfl, rfl⟩ := hm
  · exact .inl ⟨rfl, rfl⟩
  · exact .inr ⟨0, _, rfl, rfl, rfl, rfl⟩

theorem busy_rooted : busy.Rooted := ⟨plant_rooted.place, plant_rooted.depth⟩

/-- Busy, with contact input 31 a CARRIER input of a level sense. -/
def sensing : State := { busy with inputs := busy.inputs.set 31 { Input.reset .high with role := .carrier, slot := 95, sense := .levelLow } }

theorem sensing_sensed : sensing.Sensed := by unfold State.Sensed; decide

theorem witness_StepKeepsTheForm :
    (busy.Formed ∧ busy.Rooted ∧ ∃ t, step busy = .next t) ∧ sensing.Sensed ∧ (sensing.inputs[31]?.map Input.role = some .carrier) ∧
    ∃ t, step sensing = .next t :=
  ⟨⟨busy_formed, busy_rooted, busy_steps⟩, sensing_sensed, by decide, _, rfl⟩

theorem witness_StepKeepsTheAccountIndex : busy.Indexed ∧ ∃ t, step busy = .next t :=
  ⟨⟨by decide, all_records (P := fun account i => ∃ r, busy.subs.get? i = some r ∧ r.account = account) (by
      intro p hp; simp only [busy, home, List.mem_singleton] at hp; subst hp; exact ⟨_, rfl, rfl⟩),
    all_records (P := fun i (r : Subscriber) => busy.accounts.get? r.account = some i) (by decide)⟩, busy_steps⟩

theorem witness_StepKeepsActivePrepaidFunded :
    busy.Funded ∧ (busy.subs.get? 0).map Subscriber.purse = some (.prepaid 1) ∧ ∃ t, step busy = .next t := by
  refine ⟨fun i r balance hr _ hb => ?_, by decide, busy_steps⟩
  have hm := Table.mem_of_get? hr
  simp only [busy, home, List.mem_singleton, Prod.mk.injEq] at hm
  obtain ⟨rfl, rfl⟩ := hm
  cases hb; decide

theorem witness_StepKeepsTheBindings : busy.Bound ∧ ∃ t, step busy = .next t := by
  refine ⟨⟨by decide, by decide, all_records (P := fun _ (t : Tap) => t.ports.length = 4) (by decide), ?_, ?_⟩, busy_steps⟩
  · intro i r p hr hp
    have hm := Table.mem_of_get? hr
    simp only [busy, home, List.mem_singleton, Prod.mk.injEq] at hm
    obtain ⟨rfl, rfl⟩ := hm
    cases hp
    exact ⟨by decide, by decide, _, rfl, rfl⟩
  · intro tap t port i ht h1 h4 hb
    have hm := Table.mem_of_get? ht
    simp only [busy, List.mem_cons, Prod.mk.injEq, List.not_mem_nil, or_false] at hm
    obtain ⟨rfl, rfl⟩ | ⟨rfl, rfl⟩ := hm
    · have : port = 1 ∨ port = 2 ∨ port = 3 ∨ port = 4 := by omega
      obtain rfl | rfl | rfl | rfl := this <;> cases hb
      exact ⟨_, rfl, rfl⟩
    · have : port = 1 ∨ port = 2 ∨ port = 3 ∨ port = 4 := by omega
      obtain rfl | rfl | rfl | rfl := this <;> cases hb

theorem busy_flies (n : Nat) (l : Leg) (i : Nat) (q : QueueKind) (hl : busy.legs[n]? = some l) (ht : l.tapInFlight = some (i, q)) :
    n = 0 ∧ i = 0 ∧ q = .bulk := by
  match n, hl with
  | 0, hl => cases hl; cases ht; exact ⟨rfl, rfl, rfl⟩
  | 1, hl | 2, hl | 3, hl => cases hl; cases ht
  | n + 4, hl => cases hl

theorem witness_StepKeepsTapsInOnePlace : busy.Placed ∧ ∃ t, step busy = .next t := by
  refine ⟨⟨by decide, by decide, by decide, by decide, ?_, ?_, ?_⟩, busy_steps⟩
  · intro i hi
    simp only [busy, home, plant, State.reset, List.mem_singleton, List.not_mem_nil, or_false] at hi
    subst hi; exact ⟨_, rfl, rfl, rfl⟩
  · intro n l i q hl ht
    obtain ⟨rfl, rfl, rfl⟩ := busy_flies n l i q hl ht
    exact ⟨_, rfl, rfl, rfl⟩
  · intro m n k l i p q hk hl hp hq
    rw [(busy_flies m k i p hk hp).1, (busy_flies n l i q hl hq).1]

theorem witness_StepKeepsThePortInStep : busy.PortInStep ∧ ∃ t, step busy = .next t :=
  ⟨⟨by decide, by decide⟩, busy_steps⟩

theorem witness_WhatMovesTheModeAndTheMinute :
    (after (.goLive []) State.reset).mode ≠ State.reset.mode ∧ (after (.clearStore []) plant).mode ≠ plant.mode ∧
    (after (.hardReset false) plant).mode ≠ plant.mode ∧
    (after .secondEdge { plant with clock := { TimeBase.reset with second := 59, phase := 1000 } }).clock.minute ≠ 0 ∧
    (after (.setClock (w32 4294967295 ++ w8 59)) State.reset).clock.minute ≠ State.reset.clock.minute ∧
    (after (.hardReset false) { plant with clock := { TimeBase.reset with minute := 7 } }).clock.minute ≠ 7 := by decide

/-! ## Witnesses: the Request Port -/

theorem witness_SelectBytesSpellTheirCommand :
    (Instr.setAlarmMask [7#8]).wf = true ∧ selectOf (.setAlarmMask [7#8]) = some [0x78#8, 1#8, 7#8] ∧
    (Instr.readSelect 0).wf = true ∧ selectOf (.readSelect 0) = some [0#8] ∧
    (Instr.unknownRequest 0xFF#8 []).wf = true ∧ selectOf (.unknownRequest 0xFF#8 []) = some [0xFF#8, 0#8] ∧
    (Instr.partialFrameDiscarded []).wf = true ∧ selectOf (.partialFrameDiscarded []) = some [] := by decide

/-- A port that is serving, with the answer held. -/
def serving (r : Response) : State := { plant with port := { Port.reset with state := .serving, answer := some r } }

/-- A port with a response waiting. -/
def waiting (r : Response) : State := { plant with port := { Port.reset with state := .waiting, responseBuffer := some r } }

/-- A port that has left reset with its select asserted. -/
def ignoring : State := after (.hardReset true) plant

theorem carried : carriesFrame (.goLive []) [] ∧ carriesFrame (.requestFrameDiscarded 0x01#8 []) [] ∧
    carriesFrame (.unknownRequest 0xFF#8 [1#8]) [1#8] :=
  ⟨.inl rfl, .inr (.inl ⟨_, rfl⟩), .inr (.inr ⟨_, rfl, by decide⟩)⟩

theorem witness_PartialFramesAndTheSelectAtReset :
    (serving ⟨.ok, []⟩).port.selectIgnored = false ∧ ignoring.port.selectIgnored = true ∧ carriesFrame (.goLive []) [] ∧
    (∃ bytes, Instr.partialFrameDiscarded [0x15#8] = .partialFrameDiscarded bytes) ∧ ∃ n, Instr.readSelect 3 = .readSelect n :=
  ⟨by decide, by decide, carried.1, ⟨_, rfl⟩, _, rfl⟩

theorem witness_CommonRefusals :
    State.reset.listening ∧ unknownCode 0xFF#8 = true ∧
    (Instr.goLive [0#8]).body? = some [0#8] ∧ requestRow (.goLive [0#8]) = some (0, .both) ∧ [0#8].length ≠ 0 ∧
    (Instr.stageTierRate [0#8, 0#8, 0#8]).body? = some [0#8, 0#8, 0#8] ∧
    requestRow (.stageTierRate [0#8, 0#8, 0#8]) = some (3, .liveOnly) ∧ Modes.liveOnly.allow State.reset.mode = false ∧
    requestRow (.defineTier (List.replicate 11 0#8)) = some (11, .loadingOnly) ∧ Modes.loadingOnly.allow plant.mode = false ∧
    plant.listening := by decide

theorem witness_EveryCommandIsServed : (Instr.goLive []).body? = some [] ∧ (waiting ⟨.ok, []⟩).listening := by decide

theorem witness_SelectsAndTheAnswer :
    carriesFrame (.requestFrameDiscarded 0x01#8 []) [] ∧ (serving ⟨.ok, []⟩).port.state = .serving ∧
    (serving ⟨.ok, []⟩).port.selectIgnored = false ∧ (serving ⟨.ok, []⟩).port.answer = some ⟨.ok, []⟩ ∧
    (waiting ⟨.ok, [9#8]⟩).port.selectIgnored = false ∧ (waiting ⟨.ok, [9#8]⟩).port.state = .waiting ∧
    (waiting ⟨.ok, [9#8]⟩).port.responseBuffer = some ⟨.ok, [9#8]⟩ ∧ 3 + [9#8].length ≤ 4 ∧ 3 < 3 + [9#8].length ∧
    plant.port.selectIgnored = false ∧ plant.port.state ≠ .waiting :=
  ⟨carried.2.1, by decide⟩

theorem witness_GoLiveStartsThePart :
    { plant with mode := .loading }.listening ∧ { plant with mode := .loading }.mode = .loading ∧ plant.legs.length = 4 ∧
    (∀ e x, plant.elements.get? e = some x → x.leg < 4) ∧ plant.elements.get? 1 = some (element 101 (some 0) 2 .up) ∧
    plant.taps.get? 511 = some (tapOf 201 0 none) ∧ plant.sweep = none ∧
    { plant with sweep := some ⟨.all, 511⟩ }.sweep = some ⟨.all, 511⟩ :=
  ⟨by decide, rfl, rfl, all_records (P := fun _ (x : Element) => x.leg < 4) (by decide), by decide, by decide, rfl, rfl⟩

/-- Every cause that outlasts Clear Store: all slots dark, all legs in FAULT, HOLDOVER and all contacts standing. -/
def stricken : State := { plant with
  slots := List.replicate 96 { Slot.reset with dark := true }, legs := List.replicate 4 { Leg.reset with fault := some ⟨0, 0⟩ }
  clock := { TimeBase.reset with ref := .holdover }, inputs := List.replicate 32 { Input.reset .high with standing := true } }

theorem busy_outlasts : ∀ kind subject, ¬ outlasts busy kind subject := by
  intro kind subject h
  have h0 := (State.mem_outlasting busy (kind, subject)).2 h
  rw [show busy.outlasting = [] by decide] at h0
  cases h0

/-- The causes of a state, of a kind above level 0, are a list without repeats. -/
theorem causes_listed (s : State) : ∃ causes : List (AlarmKind × Nat), causes.Nodup ∧
    (∀ kind subject, (kind, subject) ∈ causes ↔ outlasts s kind subject ∧ 0 < s.alarms.level kind) ∧
    causes = s.outlasting.filter fun c => decide (0 < s.alarms.level c.1) := by
  refine ⟨_, (State.outlasting_nodup s).filter _, fun kind subject => ?_, rfl⟩
  rw [List.mem_filter, State.mem_outlasting, decide_eq_true_iff, outlasts]

theorem witness_ClearStoreAndReadStatus :
    busy.listening ∧ (∀ kind subject, ¬ outlasts busy kind subject) ∧ stricken.listening ∧
    stricken.slots.length ≤ 96 ∧ stricken.legs.length ≤ 4 ∧ stricken.inputs.length ≤ 32 ∧
    128 < (stricken.outlasting.filter fun c => decide (0 < stricken.alarms.level c.1)).length ∧ 0 < stricken.alarms.level .tableOverflow ∧
    (let s := { busy with clock := { TimeBase.reset with ref := .holdover } };
      (s.outlasting.filter fun c => decide (0 < s.alarms.level c.1)) = [(.refLost, 0)] ∧
      (after (.clearStore []) s).alarms.table.get? (alarmKey .refLost 0) =
        some ⟨.refLost, 0, .condition, .raised, 1, 1, ⟨0, 0⟩, ⟨0, 0⟩⟩) :=
  ⟨by decide, busy_outlasts, by decide, by decide, by decide, by decide, by decide +kernel, by decide, by decide⟩

/-! ## Witnesses: needs and sweep requests -/

/-- The plant with tap 0 as given. -/
def withTap0 (t : Tap) : State := { plant with taps := [(0, t), (511, tapOf 201 0 none)] }

theorem witness_NeedIsTakenWhereTheTapStands :
    (busy.taps.get? 0).map (fun t => t.origin.isSome) = some true ∧
    (let s := { plant with urgent := [0], bulk := [511] };
      s.taps.get? 0 = some (tapOf 200 1 none) ∧ (tapOf 200 1 none).origin = none ∧ 0 ∈ s.urgent ∧
      s.taps.get? 511 = some (tapOf 201 0 none) ∧ 511 ∉ s.urgent ∧ 511 ∈ s.bulk) ∧
    (let t := { tapOf 200 1 none with state := .silent, countdown := some 10 };
      (withTap0 t).taps.get? 0 = some t ∧ t.origin = none ∧ 0 ∉ (withTap0 t).urgent ∧ 0 ∉ (withTap0 t).bulk ∧ t.countdown.isSome) ∧
    (plant.taps.get? 0 = some (tapOf 200 1 none) ∧ 0 ∉ plant.urgent ∧ 0 ∉ plant.bulk ∧ (tapOf 200 1 none).countdown = none) := by decide

/-- A sweep in flight, with a pending scope set. -/
def sweeping (next : Nat) (scopes : Option Scope) : State := { plant with sweep := some ⟨.all, next⟩, scopes := scopes }

theorem witness_SweepRequestStartsOrJoins :
    plant.sweep = none ∧ (sweeping 0 none).sweep = some ⟨.all, 0⟩ ∧ (sweeping 0 none).scopes = none ∧
    (sweeping 0 (some (.subtrees [1]))).scopes = some (.subtrees [1]) ∧ 1 ∈ [1] ∧ 0 ∉ [1] ∧ [1].length < 8 ∧
    (sweeping 0 (some .all)).scopes = some .all ∧
    (sweeping 0 (some (.subtrees [1, 2, 3, 4, 5, 6, 7, 8]))).scopes = some (.subtrees [1, 2, 3, 4, 5, 6, 7, 8]) ∧
    0 ∉ [1, 2, 3, 4, 5, 6, 7, 8] ∧ 8 ≤ [1, 2, 3, 4, 5, 6, 7, 8].length ∧ plant.taps.get? 0 = some (tapOf 200 1 none) := by decide

/-! ## Witnesses: subscribers -/

/-- An Enrol of account 1002, NEW, with a tap port. -/
def enrolBody (state money port : Nat) : List Byte :=
  w32 1002 ++ w8 0 ++ w8 state ++ w16 1 ++ w32 money ++ w32 0 ++ w16 511 ++ w8 port

theorem witness_EnrolCreatesTheRecord :
    let live := home (household (.prepaid 1) .active bound)
    let loading := { live with mode := .loading }
    live.listening ∧ (enrolBody 0 0 4).length = 19 ∧ (enrolFields (enrolBody 0 0 4)).inRange = true ∧
    (subStateOf (enrolFields (enrolBody 0 0 4)).state = some .new ∧ (enrolFields (enrolBody 0 0 4)).money = 0) ∧
    live.accounts.get? (enrolFields (enrolBody 0 0 4)).account = none ∧ live.subs.wf = true ∧ live.subs.length < 2048 ∧
    (∀ p, (enrolFields (enrolBody 0 0 4)).tapPort = some p → ∃ x, live.taps.get? p.tap = some x ∧ x.boundTo p.port = none) ∧
    loading.listening ∧ loading.mode = .loading ∧ (enrolFields (enrolBody 1 99999999 0)).inRange = true ∧
    (enrolFields (enrolBody 1 99999999 0)).tapPort = none ∧ loading.accounts.get? 1002 = none := by
  intro live loading
  and_intros <;> try decide

/-- The changed household. -/
def changed : Subscriber := { household (.prepaid 0) .lapsed bound with changed := true }

theorem witness_SubscriberReads :
    (home changed).listening ∧ (w32 1001).length = 4 ∧ (home changed).holds (u32 (w32 1001) 0) 0 changed ∧
    (home changed).accounts.wf = true ∧ u32 (w32 1000) 0 < 1001 ∧
    (∀ b, u32 (w32 1000) 0 < b → b < 1001 → (home changed).accounts.get? b = none) ∧ (home changed).holds 1001 0 changed ∧
    changed.changed = true ∧ (∀ b j x, b < 1001 → (home changed).holds b j x → x.changed = false) := by
  have h : u32 (w32 1000) 0 = 1000 := by decide
  and_intros <;> try decide
  · intro b h1 h2
    omega
  intro b j x hb hx
  obtain ⟨_, hx, _⟩ := hx
  have hm := Table.mem_of_get? hx
  simp only [home, changed, household, List.mem_singleton, Prod.mk.injEq] at hm
  omega

/-- A CLOSED ACCOUNT record with its figures at their ends. -/
def widest : Subscriber := { household (.account (-99999999) 99999999) .closed (some ⟨511, 4⟩) with
  chargedMin := 65535, creditedMin := 65535, episode := some ⟨65535, 0, 0⟩, purchases := [65535, 1] }

theorem witness_SubscriberReads_layout :
    (2047 : Nat) < 2048 ∧ widest.account < 4294967296 ∧ widest.purchases.length ≤ 4 ∧
    (∀ p, widest.tapPort = some p → p.tap < 512 ∧ p.port ≤ 4) ∧ widest.purse = .account (-99999999) 99999999 ∧
    -99999999 ≤ (-99999999 : Int) ∧ (-99999999 : Int) ≤ 99999999 ∧ (99999999 : Nat) ≤ 99999999 ∧ widest.tapPort = some ⟨511, 4⟩ ∧
    (household (.prepaid 99999999) .active none).purse = .prepaid 99999999 ∧ (household (.prepaid 99999999) .active none).tapPort = none ∧
    widest.chargedMin ≤ 65535 ∧ widest.creditedMin ≤ 65535 ∧ widest.episode = some ⟨65535, 0, 0⟩ ∧ (65535 : Nat) ≤ 65535 ∧
    (household (.prepaid 1) .active none).episode = none ∧ widest.purchases[0]? = some 65535 ∧ widest.purchases.length ≤ 2 ∧ (3 : Nat) < 4 := by
  and_intros <;> try decide

theorem witness_StatesAndTiersOfARecord :
    let short := household (.account 1 0) .new bound
    let level := household (.account 5 5) .suspended bound
    let spent := household (.prepaid 0) .suspended bound
    let cent := household (.prepaid 1) .new none
    (home short).listening ∧ (home short).holds (u32 (w32 1001) 0) 0 short ∧ (w32 1001).length = 4 ∧
    short.purse = .account 1 0 ∧ ((0 : Nat) : Int) < 1 ∧ short.state = .new ∧
    (home level).holds 1001 0 level ∧ level.purse = .account 5 5 ∧ (5 : Int) ≤ (5 : Nat) ∧ level.state = .suspended ∧
    (home spent).holds 1001 0 spent ∧ spent.purse = .prepaid 0 ∧ (home cent).holds 1001 0 cent ∧ cent.purse = .prepaid 1 ∧
    (home changed).holds 1001 0 changed ∧ changed.state = .lapsed ∧ (w32 1001 ++ w16 65535).length = 6 ∧ changed.state ≠ .closed := by
  decide

theorem witness_SetCeilingRetests :
    let ask (c : Nat) := w32 1001 ++ w32 c
    let on := household (.account 5 99999999) .active bound
    let off := household (.account 5 0) .lapsed bound
    let new := household (.account 5 0) .new bound
    (home on).listening ∧ (ask 4).length = 8 ∧ u32 (ask 99999999) 4 ≤ 99999999 ∧ (home on).holds (u32 (ask 4) 0) 0 on ∧
    on.purse = .account 5 99999999 ∧ on.state ≠ .closed ∧ on.state = .active ∧ (u32 (ask 4) 4 : Int) < 5 ∧ SubState.lapsed ≠ on.state ∧
    (home off).holds 1001 0 off ∧ off.state = .lapsed ∧ (5 : Int) ≤ u32 (ask 5) 4 ∧ SubState.active ≠ off.state ∧
    (home new).holds 1001 0 new ∧ new.state = .new := by decide

/-- A household with a remainder of charge and of credit, an episode and two purchases, in a part with both events. -/
def leaving (purse : Purse) (minutes : Nat) : Subscriber := { household purse .lapsed bound with
  chargeAcc := 21600, creditRem := 21600, episode := some ⟨minutes, 7, minutes⟩, purchases := [7, 8] }

def leavingPart (r : Subscriber) : State := { home r with
  events := [(7, { eventOf .scheduled with count := 1 }), (8, { eventOf .ended with walk := some ⟨0, true, []⟩ })] }

/-- The two records the statement names exist, whatever the record closed. -/
theorem closing_records (s : State) (r : Subscriber) : ∃ r1 r2 : Subscriber,
    r1 = { r.purchases.foldl (fun r id => givenBack r (dueBack s id)) r with purchases := [], state := .closed } ∧
    ((r.episode = none ∧ r2 = r1) ∨ ∃ e, r.episode = some e ∧
      r2 = { (if s.billing.threshold ≤ e.minutes then credited r1 e else r1) with episode := none }) := by
  cases h : r.episode with
  | none => exact ⟨_, _, rfl, .inl ⟨rfl, rfl⟩⟩
  | some e => exact ⟨_, _, rfl, .inr ⟨e, rfl, rfl⟩⟩

theorem witness_CloseSubscriberCloses :
    (∀ r ∈ [leaving (.prepaid 1) 120, leaving (.account (-99999999) 0) 119, household (.prepaid 99999999) .new none],
      (leavingPart r).listening ∧ (w32 1001).length = 4 ∧ (leavingPart r).holds (u32 (w32 1001) 0) 0 r ∧ r.state ≠ .closed ∧
        (leavingPart r).events.wf = true ∧ (leavingPart r).billing.pass = none) ∧
    -- during a close pass, behind it and before it
    (let behind := { leavingPart (leaving (.prepaid 1) 120) with billing := { plant.billing with period := 65535, pass := some ⟨9, 1, some 9⟩ } };
      behind.listening ∧ behind.holds 1001 0 (leaving (.prepaid 1) 120) ∧ behind.billing.pass = some ⟨9, 1, some 9⟩ ∧
      (∃ p : Pass, p = ⟨9, 1, some 9⟩ ∧ p.close.isSome = true ∧ 0 < p.next)) ∧
    ¬(0 : Nat) < (⟨9, 0, some 9⟩ : Pass).next ∧
    dueBack (leavingPart (leaving (.prepaid 1) 120)) 7 = 499 ∧ dueBack (leavingPart (leaving (.prepaid 1) 120)) 8 = 499 :=
  ⟨by decide, ⟨by decide, by decide, rfl, _, rfl, rfl, by decide⟩, by decide, by decide, by decide⟩

/-- A CLOSED household. -/
def closed (p : Option PortRef) : Subscriber := household (.prepaid 0) .closed p

theorem witness_RetireSubscriberFrees :
    (home (closed bound)).listening ∧ (w32 1001).length = 4 ∧ (home (closed bound)).holds (u32 (w32 1001) 0) 0 (closed bound) ∧
    (closed bound).state = .closed ∧ (closed bound).slot = none ∧ (home (closed none)).holds 1001 0 (closed none) ∧ (closed none).tapPort = none := by
  decide

theorem witness_BindMoveUnbind :
    let ask := w32 1001 ++ w16 511 ++ w8 4
    let r := household (.prepaid 1) .active none
    let m := household (.prepaid 1) .active bound
    let n := household (.prepaid 1) .new bound
    (home r).listening ∧ ask.length = 7 ∧ u16 ask 4 = 511 ∧ u8 ask 6 = 4 ∧ (home r).holds (u32 ask 0) 0 r ∧
    (home r).taps.get? 511 = some (tapOf 201 0 none) ∧ r.state ≠ .closed ∧ (tapOf 201 0 none).boundTo 4 = none ∧ r.tapPort = none ∧
    (home m).holds 1001 0 m ∧ (home m).taps.get? 511 = some (tapOf 201 0 none) ∧ m.tapPort = some ⟨0, 1⟩ ∧
    (home m).taps.get? 0 = some (tapOf 200 1 (some 0)) ∧ (tapOf 201 0 none).origin = none ∧ (tapOf 200 1 (some 0)).origin = none ∧
    (tapOf 200 1 (some 0)).boundTo 2 = none ∧
    (home n).holds 1001 0 n ∧ n.tapPort = some ⟨0, 1⟩ ∧ n.state = .new ∧ (w32 1001).length = 4 ∧ (closed bound).state = .closed := by decide

theorem witness_ClosedRecordIsRefused :
    let s := { home (closed bound) with events := [(7, eventOf .scheduled)] }
    let bind := w32 1001 ++ w16 511 ++ w8 4
    let top := w32 1001 ++ w32 99999999
    let adjust := w32 1001 ++ wi32 (-99999999)
    let buy := w32 1001 ++ w16 7 ++ w8 0
    s.listening ∧ s.holds 1001 0 (closed bound) ∧ (closed bound).state = .closed ∧
    (Instr.activate (w32 1001)).body? = some (w32 1001) ∧ requestRow (.activate (w32 1001)) = some (4, .both) ∧ (w32 1001).length = 4 ∧
    requestRow (.bind bind) = some (7, .both) ∧ bind.length = 7 ∧ u16 bind 4 ≤ 511 ∧ 1 ≤ u8 bind 6 ∧ u8 bind 6 ≤ 4 ∧
    (s.taps.get? (u16 bind 4)).isSome ∧ requestRow (.topUp top) = some (8, .both) ∧ top.length = 8 ∧ 1 ≤ u32 top 4 ∧ u32 top 4 ≤ 99999999 ∧
    -99999999 ≤ i32 adjust 4 ∧ i32 adjust 4 ≤ 99999999 ∧ requestRow (.purchase buy) = some (7, .both) ∧ u16 buy 4 ≠ 0 ∧
    (s.events.get? (u16 buy 4)).isSome ∧ u8 buy 6 = 0 := by decide

theorem witness_RequestsTouchTheirOwnHousehold :
    let other := { household (.prepaid 1) .active none with account := 1002 }
    let s := { busy with subs := [(0, household (.prepaid 1) .active bound), (1, other)], accounts := [(1001, 0), (1002, 1)] }
    s.Indexed ∧ household? (.suspend (w32 1001)) = some 1001 ∧ (∃ t, exec (.suspend (w32 1001)) s = .next t) ∧
    s.subs.get? 1 = some other ∧ other.account ≠ 1001 := by
  refine ⟨⟨by decide, ?_, ?_⟩, by decide, ⟨_, rfl⟩, by decide, by decide⟩
  · refine all_records ?_
    intro p hp
    simp only [List.mem_cons, List.not_mem_nil, or_false] at hp
    obtain rfl | rfl := hp
    · exact ⟨_, rfl, rfl⟩
    · exact ⟨_, rfl, rfl⟩
  · exact all_records (by decide)

/-! ## Witnesses: the line-up, taps and sweeps -/

/-- What all listed entries have. -/
theorem all_listed {α : Type} {t : Table α} {P : Nat → α → Prop} (h : ∀ p ∈ t, P p.1 p.2) (k : Nat) (x : α) (hx : (k, x) ∈ t) : P k x :=
  h (k, x) hx

/-- A definition for slot 95: CARRIED, a label of spaces, tier 15, PAY; or UNUSED. -/
def definition (carried : Bool) : List Byte := w8 95 ++ w8 (if carried then 1 else 0) ++ blankLabel ++ w8 15 ++ w8 (if carried then 1 else 0)

theorem carried_defined : wellDefined (definition true) ⟨.carried, blankLabel, some 15, true, false⟩ := by
  refine ⟨.carried, some 15, ?_⟩
  decide

theorem unused_defined : wellDefined (definition false) ⟨.unused, blankLabel, none, false, false⟩ := by
  refine ⟨.unused, some 15, ?_⟩
  decide

theorem change_defined : wellDefined (definition true ++ w32 100) ⟨.carried, blankLabel, some 15, true, false⟩ := by
  refine ⟨.carried, some 15, ?_⟩
  decide

/-- A slot with a staged change. -/
def stagedSlot (d : Definition) (effective : Nat) : Slot := { Slot.reset with staged := some ⟨d, effective⟩ }

theorem witness_LineUpRequests :
    let loading := { plant with mode := .loading }
    let staged := { plant with slots := List.replicate 95 Slot.reset ++ [stagedSlot Slot.reset.current 10] }
    loading.listening ∧ loading.mode = .loading ∧ (definition false).length = 12 ∧ u8 (definition true) 0 ≤ 95 ∧
    noLiveEvent loading 95 ∧ plant.listening ∧ (definition true ++ w32 100).length = 16 ∧ plant.slots[95]? = some Slot.reset ∧
    staged.slots[95]? = some (stagedSlot Slot.reset.current 10) ∧ (stagedSlot Slot.reset.current 10).staged.isSome ∧ Slot.reset.staged = none ∧
    u8 [95#8] 0 ≤ 95 ∧ (w8 15 ++ w16 65535 ++ blankLabel).length = 11 ∧ plant.mode = .live ∧ (w8 15 ++ w16 65535).length = 3 ∧
    u8 (w8 15 ++ w16 65535) 0 ≤ 15 ∧ plant.tiers[15]? = some Tier.reset := by
  intro loading staged
  and_intros <;> try first | decide | decide +kernel
  intro _ _ h
  cases h

theorem witness_TiersAreResetAndLoadingStagesNone :
    plant.listening ∧ (State.reset.mode = .loading ∧ ∀ x ∈ State.reset.tiers, x.staged = none) ∧
    (∃ t, step { State.reset with pending := [.defineTier (w8 15 ++ w16 1 ++ blankLabel)] } = .next t ∧ t.mode = .loading) :=
  ⟨by decide, by decide, _, rfl, by decide⟩

/-- At the boundary into minute 10, with a staged change of slot 5 and an event on it. -/
def falling (x : Slot) (e : EventState) (closes : Nat) : State :=
  { plant with
    slots := List.replicate 5 Slot.reset ++ [x] ++ List.replicate 90 Slot.reset
    events := [(7, { eventOf e with openMinute := 1, closeMinute := closes })], announced := ⟨[10], [], []⟩ }

theorem witness_LineUpTakesABoundary :
    let unused := Slot.reset.current
    let pay : Definition := ⟨.carried, blankLabel, none, true, false⟩
    (falling Slot.reset .opened 60).announced.lineUp = 10 :: [] ∧ (falling Slot.reset .opened 60).slots.length = 96 ∧
    (falling Slot.reset .opened 60).slots[5]? = some Slot.reset ∧ Slot.reset.staged = none ∧
    (falling (stagedSlot unused 11) .opened 60).slots[5]? = some (stagedSlot unused 11) ∧ 10 < 11 ∧
    (falling (stagedSlot pay 10) .opened 60).slots[5]? = some (stagedSlot pay 10) ∧ (10 : Nat) ≤ 10 ∧ pay.state = .carried ∧ pay.pay = true ∧
    (∀ id e, (id, e) ∈ (falling (stagedSlot unused 10) .opened 10).events →
      e.slot = 5 → e.state ≠ .scheduled ∧ (e.state = .opened → e.closeMinute = 10)) ∧
    ¬(unused.state = .carried ∧ unused.pay = true) ∧
    (∃ id e, (id, e) ∈ (falling (stagedSlot unused 10) .scheduled 60).events ∧ e.slot = 5 ∧
      (e.state = .scheduled ∨ (e.state = .opened ∧ e.closeMinute ≠ 10))) ∧
    -- nothing due, and a pay change applied with a sweep in flight or with none
    (falling (stagedSlot pay 11) .opened 60).slots[5]? = some (stagedSlot pay 11) ∧
    (falling (stagedSlot pay 10) .opened 60).sweep = none ∧ (falling (stagedSlot pay 10) .opened 60).scopes = none ∧
    (∃ u : State, u = (fun u : State => u.requestSweep .all)^[1] (falling (stagedSlot pay 10) .opened 60)) := by
  intro unused pay
  and_intros <;> try first | decide | decide +kernel
  · exact all_listed (P := fun _ (e : EventRec) => e.slot = 5 → e.state ≠ EventState.scheduled ∧ (e.state = .opened → e.closeMinute = 10)) (by decide)
  · exact ⟨7, _, List.mem_singleton.mpr rfl, by decide, .inl rfl⟩
  · exact ⟨_, rfl⟩

/-- No staged change of the plant is due at minute 10. -/
theorem witness_LineUpTakesABoundary_nothing_due :
    ∀ (i : Nat) (x : Slot) (g : Staged), (falling Slot.reset .opened 60).slots[i]? = some x → x.staged = some g → 10 < g.effective := by
  intro i x g h hg
  have hx : ∀ y ∈ (falling Slot.reset .opened 60).slots, y.staged = none := by decide
  rw [hx x (List.mem_of_getElem? h)] at hg
  cases hg

theorem witness_DesiredSetting :
    plant.slots.length = 96 ∧ (⟨none, none⟩ : TapPort).subscriber = none ∧
    (home (household (.prepaid 1) .active bound)).subs.get? 0 = some (household (.prepaid 1) .active bound) ∧
    (home changed).subs.get? 0 = some changed ∧ changed.state = .lapsed ∧ (household (.prepaid 1) .active bound).state = .active ∧
    (home (closed bound)).subs.get? 0 = some (closed bound) ∧ plant.slots[95]? = some Slot.reset := by decide +kernel

theorem witness_TapRequests :
    let ask := w16 65534 ++ w8 1
    plant.listening ∧ ask.length = 3 ∧ u16 ask 0 ≠ 0 ∧ u16 ask 0 ≠ 65535 ∧ u8 ask 2 ≤ 127 ∧
    (∀ i t, (i, t) ∈ plant.taps → t.address ≠ u16 ask 0) ∧ (∀ i x, (i, x) ∈ plant.elements → x.address ≠ u16 ask 0) ∧
    plant.taps.length < 512 ∧ plant.taps.wf = true ∧ plant.elements.get? (u8 ask 2) = some (element 101 (some 0) 2 .up) ∧
    (w16 511).length = 2 ∧ u16 (w16 511) 0 ≤ 511 ∧ plant.taps.get? (u16 (w16 511) 0) = some (tapOf 201 0 none) ∧
    (∀ p ∈ (tapOf 201 0 none).ports, p.subscriber = none) ∧ (tapOf 201 0 none).origin = none ∧
    plant.elements.get? (tapOf 201 0 none).feeding = some (element 100 none 1 .up) ∧ (sweeping 511 (some (.subtrees [0]))).listening := by
  intro ask
  and_intros <;> try decide
  · exact all_listed (P := fun _ (t : Tap) => t.address ≠ u16 (w16 65534 ++ w8 1) 0) (by decide)
  · exact all_listed (P := fun _ (x : Element) => x.address ≠ u16 (w16 65534 ++ w8 1) 0) (by decide)

/-- A SILENT tap with its countdown at `n`. -/
def silent (n : Nat) : Tap := { tapOf 200 1 none with state := .silent, countdown := some n }

theorem witness_CountdownsRunAndExpire :
    let s := { withTap0 (silent 1) with announced := ⟨[], [], [10]⟩ }
    s.announced.taps = 10 :: [] ∧ s.taps.get? 0 = some (silent 1) ∧ (silent 1).countdown = some 1 ∧ 0 ∉ s.urgent ∧ 0 ∉ s.bulk ∧
    (silent 1).origin = none ∧ s.taps.get? 511 = some (tapOf 201 0 none) ∧ (tapOf 201 0 none).countdown = none ∧
    (withTap0 (silent 0)).taps.get? 0 = some (silent 0) ∧ (silent 0).countdown = some 0 ∧ (silent 1).countdown ≠ some 0 := by decide

/-- A tap with a household and its port confirmed as given. -/
def settled (confirmed : Option Setting) : Tap :=
  { tapOf 200 1 (some 0) with ports := ⟨some 0, confirmed⟩ :: List.replicate 3 ⟨none, some .off⟩ }

theorem witness_SweepVisitsItsNextIndex :
    let s := { home (closed bound) with sweep := some ⟨.all, 0⟩ }
    let on := { s with taps := [(0, settled (some .off))] }
    let off := { s with taps := [(0, settled none)], sweep := some ⟨.subtrees [0], 0⟩ }
    (sweeping 511 none).sweep = some ⟨.all, 511⟩ ∧ 511 ≤ 511 ∧ (sweeping 510 none).taps.get? 510 = none ∧
    (sweeping 511 none).taps.get? 511 = some (tapOf 201 0 none) ∧ (∀ p ∈ (tapOf 201 0 none).ports, p.subscriber = none) ∧
    on.sweep = some ⟨.all, 0⟩ ∧ on.taps.wf = true ∧ on.taps.get? 0 = some (settled (some .off)) ∧
    (∃ p ∈ (settled (some .off)).ports, p.subscriber.isSome) ∧ (settled (some .off)).countdown = none ∧
    (∀ p ∈ (settled (some .off)).ports, p.confirmed = some (on.desired p)) ∧
    (∃ es, (⟨.subtrees [0], 0⟩ : Sweep).scope = .subtrees es ∧ ∃ e ∈ es, off.under e (settled none).feeding = true) ∧
    (∃ p ∈ (settled none).ports, p.confirmed ≠ some (off.desired p)) ∧ (silent 1).countdown.isSome ∧
    (∃ es, Scope.subtrees [1] = .subtrees es ∧ ∀ e ∈ es, off.under e 0 = false) := by
  intro s on off
  and_intros <;> try decide
  · exact ⟨[0], rfl, by decide⟩
  · exact ⟨[1], rfl, by decide⟩

/-! ## Witnesses: the plant link -/

/-- The plant with leg 0 as given. -/
def withLeg0 (l : Leg) : State := { plant with legs := l :: List.replicate 3 Leg.reset }

theorem witness_LinkParametersAndReadLeg :
    let slow := w8 0 ++ w16 64 ++ w8 7 ++ w8 5 ++ w8 1
    let mid := w8 1 ++ w16 32 ++ w8 7 ++ w8 5 ++ w8 1
    let fast := w8 2 ++ w16 20 ++ w8 0 ++ w8 255 ++ w8 255
    plant.listening ∧ slow.length = 6 ∧ rateOf (u8 slow 0) = some .r9600 ∧ 64 ≤ u16 slow 1 ∧ u16 slow 1 ≤ 2000 ∧ u8 slow 3 ≤ 7 ∧ 5 ≤ u8 slow 4 ∧
    1 ≤ u8 slow 5 ∧ rateOf (u8 mid 0) = some .r19200 ∧ 32 ≤ u16 mid 1 ∧ rateOf (u8 fast 0) = some .r38400 ∧ 20 ≤ u16 fast 1 ∧
    (w8 3 ++ w8 1).length = 2 ∧ u8 (w8 3 ++ w8 1) 0 ≤ 3 ∧ plant.legs[3]? = some Leg.reset := by decide

/-- The plant with its two elements as given. -/
def elements (a b : Element) : State := { plant with elements := [(0, a), (1, b)] }

/-- Element 0 DOWN, its child UP: tap 511 is held, tap 0 is not. -/
def halfDown : State := elements (element 100 none 1 .down) (element 101 (some 0) 2 .up)

theorem halfDown_offers : offered halfDown 0 0 ∧ ¬offered halfDown 0 511 :=
  ⟨⟨_, _, rfl, rfl, rfl, .inl rfl⟩, fun ⟨t, e, ht, he, _, hs⟩ => by
    cases ht; cases he; rcases hs with h | h <;> cases h⟩

theorem witness_LegTakesWorkInOrder :
    plant.legs[0]? = some Leg.reset ∧ plant.elements.wf = true ∧ plant.taps.wf = true ∧ { plant with mode := .loading }.mode = .loading ∧
    { Leg.reset with activity := .awaiting }.activity ≠ .idle ∧ { Leg.reset with fault := some ⟨0, 0⟩ }.fault.isSome ∧
    plant.mode = .live ∧ Leg.reset.activity = .idle ∧ Leg.reset.fault = none ∧
    -- a priority poll of element 1, element 0 having none
    (let s := elements (element 100 none 1 .up) { element 101 (some 0) 2 .verify with priority := true };
      (s.elements.get? 1).map Element.priority = some true ∧
      ∀ e' y, e' < 1 → s.elements.get? e' = some y → y.leg = 0 → y.priority = false) ∧
    -- no priority poll: tap 0 behind tap 511, which is held
    ((∀ e x, halfDown.elements.get? e = some x → x.leg = 0 → x.priority = false) ∧
      { halfDown with urgent := [511, 0] }.urgent = [511] ++ 0 :: [] ∧ offered halfDown 0 0 ∧ (∀ j ∈ [511], ¬offered halfDown 0 j) ∧
      halfDown.taps.get? 0 = some (tapOf 200 1 none)) ∧
    -- a routine poll of element 1, element 0 not being due
    (let s := elements (element 100 none 1 .up) { element 101 (some 0) 2 .up with pollDue := true };
      (∀ i ∈ s.urgent, ¬offered s 0 i) ∧ (s.elements.get? 1).map Element.pollDue = some true ∧
      ∀ e' y, e' < 1 → s.elements.get? e' = some y → y.leg = 0 → y.pollDue = false) ∧
    -- no poll due: a bulk tap, or nothing
    ((∀ e x, halfDown.elements.get? e = some x → x.leg = 0 → x.pollDue = false) ∧
      { halfDown with bulk := [511, 0] }.bulk = [511] ++ 0 :: [] ∧ ∀ i ∈ plant.bulk, ¬offered plant 0 i) := by
  and_intros <;> try decide
  rotate_left
  · exact all_records (P := fun _ (x : Element) => x.leg = 0 → x.priority = false) (by decide)
  · exact halfDown_offers.1
  rotate_left
  · exact fun i hi => by cases hi
  rotate_left
  · exact all_records (P := fun _ (x : Element) => x.leg = 0 → x.pollDue = false) (by decide)
  · exact fun i hi => by cases hi
  · intro e' y he hy _
    obtain rfl : e' = 0 := by omega
    cases hy; rfl
  · intro j hj
    rw [List.mem_singleton] at hj
    subst hj; exact halfDown_offers.2
  · intro e' y he hy _
    obtain rfl : e' = 0 := by omega
    cases hy; rfl

theorem witness_FramesEndAndCyclesStart :
    (withLeg0 { Leg.reset with activity := .transmitting, txen := true }).legs[0]? = some { Leg.reset with activity := .transmitting, txen := true } ∧
    { Leg.reset with activity := .transmitting }.activity = .transmitting ∧
    ({ Leg.reset with txen := true }.activity = .idle ∧ { Leg.reset with txen := true }.txen = true) ∧
    { Leg.reset with pollTimer := some 1 }.pollTimer ≠ some 0 ∧ { Leg.reset with pollTimer := some 0 }.pollTimer = some 0 ∧
    (withLeg0 { Leg.reset with pollTimer := some 0 }).legs[0]? = some { Leg.reset with pollTimer := some 0 } ∧ plant.elements.get? 0 = some (element 100 none 1 .up) ∧
    plant.elements.get? 1023 = none ∧
    -- TX at rest, TX while a character goes out, and a leg whose frame is not cut
    (Leg.reset.txen = false ∧ { Leg.reset with txen := true, frame := [0x96#8, 0#8] }.frame[1]? = some 0#8 ∧
      { Leg.reset with activity := .transmitting, txen := true }.activity ≠ .idle) := by decide

/-- A leg that awaits the reply to a try of tap 0. -/
def awaitingTap (tries : Nat) : Leg :=
  { Leg.reset with activity := .awaiting, txn := some ⟨.tap 0 tries .urgent (List.replicate 4 .off), 200⟩, tryTimer := 1, tag := 255 }

/-- Tap 0 in flight. -/
def flying : Tap := { tapOf 200 1 none with origin := some .urgent, dirty := true }

/-- Tap 0 in flight on leg 0, its feeding element in a state. -/
def inFlight (tries : Nat) (state : ElementState) : State :=
  { withLeg0 (awaitingTap tries) with
    elements := [(0, element 100 none 1 .up), (1, element 101 (some 0) 2 state)], taps := [(0, flying), (511, tapOf 201 0 none)] }

/-- A leg that awaits the reply to a poll of element 1. -/
def awaitingPoll (priority retired : Bool) : Leg :=
  { Leg.reset with activity := .awaiting, txn := some ⟨.poll 1 priority retired, 101⟩, tryTimer := 1, tag := 7 }

/-- A frame of the reply to a try of tap 0 whose last check character is wrong. -/
def brokenReply : List Byte := [0x96#8, 0#8, 200#8, 0x01#8, 255#8, 2#8, 0x0F#8, 0#8, 0#8, 0#8]

theorem broken_fails : failsCheck brokenReply := ⟨0#8, 200#8, 0x01#8, .inr ⟨.inl rfl, 255#8, 2#8, .inr ⟨rfl, 0x0F#8, 0#8, 0#8, 0#8, by decide +kernel, rfl⟩⟩⟩

/-- A frame whose kind is none of the two. -/
theorem strange_kind_fails : failsCheck [0x96#8, 0#8, 0#8, 0#8] := ⟨0#8, 0#8, 0#8, .inl ⟨by decide, by decide, rfl⟩⟩

/-- A frame whose length is not 2. -/
theorem long_frame_fails : failsCheck [0x96#8, 0#8, 0#8, 0x02#8, 0#8, 3#8] :=
  ⟨0#8, 0#8, 0x02#8, .inr ⟨.inr rfl, 0#8, 3#8, .inl ⟨by decide, rfl⟩⟩⟩

theorem witness_ReplyFramesAreRecovered :
    (∃ t, exec (.replyFrameReceived 0 [0x96#8]) (inFlight 1 .up) = .next t) ∧ Leg.reset.activity ≠ .awaiting ∧
    { awaitingTap 1 with txn := none }.txn = none ∧ { awaitingTap 1 with tryTimer := 0 }.tryTimer = 0 ∧
    ((inFlight 1 .up).legs[0]? = some (awaitingTap 1) ∧ (awaitingTap 1).activity = .awaiting ∧ (awaitingTap 1).tryTimer ≠ 0 ∧
      (awaitingTap 1).txn = some ⟨.tap 0 1 .urgent (List.replicate 4 .off), 200⟩ ∧ (awaitingTap 1).rx = []) ∧
    0x96#8 ∉ [0x00#8, 0xFF#8] ∧ (65535 : Nat) ≤ 65535 ∧ (0 : Nat) < 1 ∧ 9 < 10 ∧
    -- discarded: another address, or another tag
    (65535 ≠ 200 ∨ (0 : Nat) ≠ (awaitingTap 1).tag) ∧ ((200 : Nat) ≠ 200 ∨ 254 ≠ (awaitingTap 1).tag) ∧ (254 : Nat) ≤ 255 ∧
    -- a failed check, and the wrong kind for a tap and for a poll
    failsCheck brokenReply ∧ failsCheck [0x96#8, 0#8, 0#8, 0#8] ∧ failsCheck [0x96#8, 0#8, 0#8, 0x02#8, 0#8, 3#8] ∧
    (∃ chars, chars = legFrame 200 0x02#8 (awaitingTap 1).tag [0#8, 0#8] ∧ (awaitingTap 1).tag ≤ 255) ∧
    (∃ chars, chars = legFrame 101 0x01#8 (awaitingPoll true false).tag [0#8, 0#8] ∧ (awaitingPoll true false).rx = []) := by
  and_intros <;> try decide
  · exact ⟨_, rfl⟩
  · exact broken_fails
  · exact strange_kind_fails
  · exact long_frame_fails
  · exact ⟨_, rfl, by decide⟩
  · exact ⟨_, rfl, by decide⟩

theorem witness_TapReplyConfirmsTheBuiltSettings :
    (inFlight 1 .up).legs[0]? = some (awaitingTap 1) ∧ (awaitingTap 1).activity = .awaiting ∧ (awaitingTap 1).tryTimer ≠ 0 ∧
    (awaitingTap 1).txn = some ⟨.tap 0 1 .urgent (List.replicate 4 .off), 200⟩ ∧ (awaitingTap 1).rx = [] ∧ (200 : Nat) ≤ 65535 ∧
    (awaitingTap 1).tag ≤ 255 ∧ (inFlight 1 .up).taps.wf = true ∧ (inFlight 1 .up).taps.get? 0 = some flying ∧ flying.ports.length = 4 ∧
    (List.replicate 4 Setting.off).length = 4 ∧
    (∃ chars u, chars = legFrame 200 0x01#8 (awaitingTap 1).tag [0x07#8, 0x01#8] ∧ exec (.replyFrameReceived 0 chars) (inFlight 1 .up) = .next u) := by
  and_intros <;> try decide
  exact ⟨_, _, rfl, rfl⟩

theorem witness_TapTryTimesOut :
    (awaitingTap 3).tryTimer ≠ 0 ∧
    (let late := { inFlight 3 .down with legs := { awaitingTap 3 with tryTimer := 0 } :: List.replicate 3 Leg.reset };
      late.legs[0]? = some { awaitingTap 3 with tryTimer := 0 } ∧ late.taps.get? 0 = some flying) ∧
    (inFlight 3 .down).legs[0]? = some (awaitingTap 3) ∧ (awaitingTap 3).txn = some ⟨.tap 0 3 .urgent (List.replicate 4 .off), 200⟩ ∧
    (inFlight 3 .down).taps.wf = true ∧ (inFlight 3 .down).taps.get? 0 = some flying ∧
    (inFlight 3 .down).elements.get? flying.feeding = some (element 101 (some 0) 2 .down) ∧ (element 101 (some 0) 2 .down).state = .down ∧
    (inFlight 2 .suspect).elements.get? flying.feeding = some (element 101 (some 0) 2 .suspect) ∧ 2 ≤ (inFlight 2 .suspect).link.retryLimit ∧
    (inFlight 3 .up).elements.get? flying.feeding = some (element 101 (some 0) 2 .up) ∧ (inFlight 3 .up).link.retryLimit < 3 := by decide

theorem witness_ReturnFaultsBeginAndEnd :
    let faulty := { Leg.reset with fault := some ⟨0, 0⟩, measured := 520 }
    let low := { Leg.reset with measured := 520 }
    ((withLeg0 faulty).legs[0]? = some faulty ∧ plant.taps.wf = true ∧ plant.elements.wf = true) ∧
    (521 = (if true then faulty.measured + 1 else 1)) ∧ (520 = (if false then faulty.measured + 520 else 520)) ∧
    { Leg.reset with activity := .transmitting }.activity = .transmitting ∧ faulty.activity ≠ .transmitting ∧ faulty.fault = some ⟨0, 0⟩ ∧
    520 * faulty.rate.bps < 10 * 1000000 ∧ 10 * 1000000 ≤ 521 * faulty.rate.bps ∧ low.fault = none ∧
    520 * low.rate.bps ≤ 10 * 1000000 ∧ 10 * 1000000 < 521 * low.rate.bps ∧ low.activity = .idle ∧
    (awaitingTap 1).activity = .awaiting ∧ (awaitingTap 1).fault = none ∧ (inFlight 1 .up).taps.get? 0 = some flying ∧
    (awaitingPoll false false).txn = some ⟨.poll 1 false false, 101⟩ ∧ plant.elements.get? 1 = some (element 101 (some 0) 2 .up) ∧
    (awaitingPoll true false).txn = some ⟨.poll 1 true false, 101⟩ ∧ (awaitingPoll false true).txn = some ⟨.poll 1 false true, 101⟩ := by decide

/-! ## Witnesses: the plant topology -/

/-- A poll of element 1 in flight on leg 0, element 1 as given. -/
def polled (retired : Bool) (x : Element) : State :=
  { withLeg0 (awaitingPoll false retired) with elements := [(0, element 100 none 1 .up), (1, x), (2, element 102 (some 1) 3 .up)] }

/-- Element 1 in a state with some misses. -/
def missed (state : ElementState) (miss : Nat) : Element := { element 101 (some 0) 2 state with miss := miss }

theorem witness_MissesMoveElements :
    (polled true (missed .up 0)).legs[0]? = some (awaitingPoll false true) ∧ (awaitingPoll false true).txn = some ⟨.poll 1 false true, 101⟩ ∧
    (polled false (missed .shadowed 0)).legs[0]? = some (awaitingPoll false false) ∧
    (awaitingPoll false false).txn = some ⟨.poll 1 false false, 101⟩ ∧
    (polled false (missed .shadowed 0)).elements.get? 1 = some (missed .shadowed 0) ∧
    (polled false (missed .down 15)).elements.get? 1 = some (missed .down 15) ∧ (missed .down 15).state = .down ∧
    (polled false (missed .verify 1)).elements.get? 1 = some (missed .verify 1) ∧ 2 < (polled false (missed .verify 1)).topo.missThreshold ∧
    (polled false (missed .suspect 1)).elements.get? 1 = some (missed .suspect 1) ∧ (missed .suspect 1).state = .suspect ∧
    (polled false (missed .suspect 2)).elements.get? 1 = some (missed .suspect 2) ∧ (polled false (missed .suspect 2)).topo.missThreshold ≤ 3 ∧
    (polled false (missed .suspect 2)).elements.get? 2 = some (element 102 (some 1) 3 .up) ∧
    (awaitingPoll false true).tryTimer ≠ 0 ∧
    (let late := withLeg0 { awaitingPoll false true with tryTimer := 0 };
      late.legs[0]? = some { awaitingPoll false true with tryTimer := 0 } ∧ late.elements.get? 1 = some (element 101 (some 0) 2 .up)) ∧
    (2 + 1 = if (missed .suspect 2).miss < 15 then (missed .suspect 2).miss + 1 else 15) := by decide

theorem witness_RepliesRestoreElements :
    ((polled false (missed .down 3)).legs[0]? = some (awaitingPoll false false) ∧ (awaitingPoll false false).activity = .awaiting ∧
      (awaitingPoll false false).tryTimer ≠ 0 ∧ (awaitingPoll false false).txn = some ⟨.poll 1 false false, 101⟩ ∧
      (awaitingPoll false false).rx = [] ∧ (101 : Nat) ≤ 65535 ∧ (awaitingPoll false false).tag ≤ 255) ∧
    (polled false (missed .down 3)).elements.get? 1 = some (missed .down 3) ∧ (missed .down 3).parent ≠ some 1 ∧
    (polled false (missed .down 3)).elements.get? 2 = some (element 102 (some 1) 3 .up) ∧
    (∃ supply : Supply, supply = (if 0x03#8 = 0#8 then .mains else if 0x03#8 = 1#8 then .battery else if 0x03#8 = 2#8 then .batteryLow
      else (missed .down 3).supply) ∧ supply = .unknown) ∧
    (∃ level : Int, level = (if 0x80#8 = 0x80#8 then -127 else (0x80#8 : Byte).toInt)) ∧
    (∃ level : Int, level = (if 0x81#8 = 0x80#8 then -127 else (0x81#8 : Byte).toInt) ∧ level = -127) ∧
    (polled false (missed .shadowed 0)).elements.get? 1 = some (missed .shadowed 0) ∧
    (polled false (missed .suspect 1)).elements.get? 1 = some (missed .suspect 1) ∧
    (polled false (missed .verify 1)).elements.get? 1 = some (missed .verify 1) ∧
    -- a poll of a retired element
    (polled true (missed .up 0)).legs[0]? = some (awaitingPoll false true) ∧ (awaitingPoll false true).txn = some ⟨.poll 1 false true, 101⟩ := by
  and_intros <;> try decide
  · exact ⟨_, rfl, by decide⟩
  · exact ⟨_, rfl⟩
  · exact ⟨_, rfl, by decide⟩

theorem witness_ElementRequests :
    let root := w16 65534 ++ w8 255 ++ w8 3
    let child := w16 1 ++ w8 1 ++ w8 0
    plant.listening ∧ root.length = 4 ∧ u16 root 0 ≠ 0 ∧ u16 root 0 ≠ 65535 ∧ (∀ i t, (i, t) ∈ plant.taps → t.address ≠ u16 root 0) ∧
    (∀ i y, (i, y) ∈ plant.elements → y.address ≠ u16 root 0) ∧ plant.elements.length < 128 ∧ plant.elements.wf = true ∧
    u8 root 2 = 255 ∧ u8 root 3 ≤ 3 ∧ u8 child 2 ≤ 127 ∧ plant.elements.get? (u8 child 2) = some (element 101 (some 0) 2 .up) ∧
    (element 101 (some 0) 2 .up).depth ≠ 16 ∧ plant.mode = .live ∧ (element 101 (some 0) 2 .up).state = .up ∧
    halfDown.elements.get? 0 = some (element 100 none 1 .down) ∧ (element 100 none 1 .down).state = .down ∧
    -- retiring a childless element that feeds no tap
    (let s := polled false (missed .up 0);
      s.elements.get? 2 = some (element 102 (some 1) 3 .up) ∧ s.legs[0]? = some (awaitingPoll false false)) ∧
    (∀ j y, (j, y) ∈ (polled false (missed .up 0)).elements → y.parent ≠ some 2) ∧
    (∀ i t, (i, t) ∈ (polled false (missed .up 0)).taps → t.feeding ≠ 2) ∧
    -- reading, from index 0 and from an index above the first
    u8 [1#8] 0 ≤ 127 ∧ plant.elements.get? (u8 [1#8] 0) = some (element 101 (some 0) 2 .up) ∧ u8 [1#8, 0xE1#8] 0 ≤ 128 ∧
    ([1#8, 0xE1#8].getD 1 0#8).getLsbD (element 101 (some 0) 2 .up).state.code = true ∧
    (∀ j y, u8 [1#8, 0xE1#8] 0 ≤ j → j < 1 → plant.elements.get? j = some y → ([1#8, 0xE1#8].getD 1 0#8).getLsbD y.state.code = false) := by
  intro root child
  and_intros <;> try decide
  · exact all_listed (P := fun _ (t : Tap) => t.address ≠ u16 (w16 65534 ++ w8 255 ++ w8 3) 0) (by decide)
  · exact all_listed (P := fun _ (y : Element) => y.address ≠ u16 (w16 65534 ++ w8 255 ++ w8 3) 0) (by decide)
  · exact all_listed (P := fun _ (y : Element) => y.parent ≠ some 2) (by decide)
  · exact all_listed (P := fun _ (t : Tap) => t.feeding ≠ 2) (by decide)
  intro j y h1 h2
  have h : u8 [1#8, 0xE1#8] 0 = 1 := by decide
  omega

theorem wavering_tree : (polled false (missed .suspect 1)).Rooted := by
  refine ⟨fun e x h => ?_, all_records (P := fun _ (x : Element) => x.depth ≤ 16) (by decide)⟩
  have hm := Table.mem_of_get? h
  simp only [polled, List.mem_cons, Prod.mk.injEq, List.not_mem_nil, or_false] at hm
  obtain ⟨rfl, rfl⟩ | ⟨rfl, rfl⟩ | ⟨rfl, rfl⟩ := hm
  · exact .inl ⟨rfl, rfl⟩
  · exact .inr ⟨0, _, rfl, rfl, rfl, rfl⟩
  · exact .inr ⟨1, _, rfl, rfl, rfl, rfl⟩

/-- Only element 1 is at or above a threshold of 1. -/
theorem wavering_over (e : Nat) : overThreshold (polled false (missed .suspect 1)) 1 e ↔ e = 1 := by
  constructor
  · rintro ⟨x, hx, hs, _⟩
    have hm := Table.mem_of_get? hx
    simp only [polled, List.mem_cons, Prod.mk.injEq, List.not_mem_nil, or_false] at hm
    obtain ⟨rfl, rfl⟩ | ⟨rfl, -⟩ | ⟨rfl, rfl⟩ := hm
    · rcases hs with hs | hs <;> cases hs
    · rfl
    · rcases hs with hs | hs <;> cases hs
  · rintro rfl
    exact ⟨_, rfl, .inl rfl, Nat.le_refl 1⟩

theorem wavering_down (e : Nat) : goesDown (polled false (missed .suspect 1)) 1 e ↔ e = 1 :=
  ⟨fun h => (wavering_over e).mp h.1, fun h => ⟨(wavering_over e).mpr h, fun a ha _ ho => ha (((wavering_over a).mp ho).trans h.symm)⟩⟩

theorem witness_TopologyParametersTakeEffect :
    let s := polled false (missed .suspect 1)
    (plant.listening ∧ (w8 15 ++ w8 127).length = 2 ∧ 1 ≤ u8 (w8 15 ++ w8 127) 0 ∧ u8 (w8 15 ++ w8 127) 0 ≤ 15 ∧ 1 ≤ u8 (w8 15 ++ w8 127) 1 ∧
      u8 (w8 15 ++ w8 127) 1 ≤ 127 ∧ plant.topo.missThreshold ≤ u8 (w8 15 ++ w8 127) 0) ∧
    s.listening ∧ u8 (w8 1 ++ w8 1) 0 = 1 ∧ u8 (w8 1 ++ w8 1) 0 < s.topo.missThreshold ∧ s.elements.wf = true ∧ s.Rooted ∧
    s.elements.get? 1 = some (missed .suspect 1) ∧ goesDown s 1 1 ∧
    ((2 : Nat) ≠ 1 ∧ s.under 1 2 = true ∧ s.elements.get? 2 = some (element 102 (some 1) 3 .up)) ∧
    (s.elements.get? 0 = some (element 100 none 1 .up) ∧ ∀ top, goesDown s 1 top → s.under top 0 = false) ∧
    (∀ e, e ∈ [1] ↔ goesDown s 1 e) ∧
    [1].Pairwise (fun e f => ∀ x y, s.elements.get? e = some x → s.elements.get? f = some y → x.depth < y.depth ∨ (x.depth = y.depth ∧ e < f)) := by
  intro s
  and_intros <;> try decide
  · exact wavering_tree
  · exact ((wavering_down 1).mpr rfl).1
  · exact ((wavering_down 1).mpr rfl).2
  · intro top h
    obtain rfl := (wavering_down top).mp h
    decide
  · intro e
    rw [List.mem_singleton]
    exact (wavering_down e).symm
  · exact List.pairwise_singleton _ _

/-! ## Witnesses: time, billing and metering -/

/-- The plant with its clock as given. -/
def clocked (c : TimeBase) : State := { plant with clock := c }

theorem witness_EdgesPulsesAndTheLossOfTheReference :
    let t := TimeBase.reset
    { t with second := 58 }.second < 59 ∧ { t with second := 59 }.second = 59 ∧
    (clocked { t with second := 59 }).mode = .live ∧ (clocked { t with second := 59 }).billing.pass = none ∧
    { plant with mode := .loading }.mode = .loading ∧
    (let s := { clocked { t with second := 59 } with billing := { Billing.reset with pass := some ⟨0, 5, none⟩ } };
      s.billing.pass.isSome ∧ s.clock.pending = none) ∧
    { t with pending := some ⟨1, some 2⟩ }.pending = some ⟨1, some 2⟩ ∧
    (1000 : Nat) ≤ (clocked { t with phase := 1000 }).clock.phase ∧ (clocked { t with phase := 999 }).clock.phase < 1000 ∧
    (let s := clocked { t with phase := 1000, second := 59, ref := .tracking }; s.clock.ref = .tracking ∧ 1000 ≤ s.clock.phase) ∧
    (let s := clocked { t with ref := .tracking, lossTimer := some 2999 }; s.clock.lossTimer = some 2999 ∧ 2999 < 3000) ∧
    (let s := clocked { t with ref := .acquiring, lossTimer := some 3000 };
      s.clock.lossTimer = some 3000 ∧ 3000 ≤ 3000 ∧ s.clock.ref = .acquiring) ∧
    t.ref = .notSelected ∧ { t with ref := .holdover, phase := 500 }.ref ≠ .notSelected ∧ 500 ≤ { t with ref := .holdover, phase := 500 }.phase ∧
    { t with ref := .acquiring, phase := 499 }.phase < 500 ∧ { t with ref := .acquiring, phase := 499 }.pulseMark = false ∧
    { t with ref := .tracking, pulseMark := true }.pulseMark = true ∧ { t with ref := .tracking }.phase < 500 := by decide

theorem witness_ClockRequests :
    plant.listening ∧ [1#8].length = 1 ∧ u8 [1#8] 0 ≠ 0 ∧ plant.clock.ref = .notSelected ∧ (clocked { TimeBase.reset with ref := .holdover }).listening ∧
    (clocked { TimeBase.reset with ref := .holdover }).clock.ref ≠ .notSelected ∧ u8 [0#8] 0 = 0 ∧ u8 [59#8] 0 ≤ 59 ∧
    1000 ≤ (clocked { TimeBase.reset with phase := 1000, second := 59 }).clock.phase ∧ (clocked { TimeBase.reset with phase := 1000, second := 59 }).listening ∧
    (w32 4294967295 ++ w8 59).length = 5 ∧ u8 (w32 4294967295 ++ w8 59) 4 ≤ 59 ∧ { plant with mode := .loading }.mode = .loading ∧
    plant.mode = .live := by decide

theorem witness_MoneyRequests :
    let ask (n : Int) := w32 1001 ++ wi32 n
    let lapsed := household (.prepaid 0) .lapsed bound
    let full := household (.prepaid 99999999) .active none
    let debtor := household (.account (-99999999) 0) .active none
    let above := household (.account 6 5) .lapsed bound
    (home lapsed).listening ∧ (ask 1).length = 8 ∧ (home lapsed).holds (u32 (ask 1) 0) 0 lapsed ∧ lapsed.state ≠ .closed ∧
    lapsed.purse = .prepaid 0 ∧ 1 ≤ u32 (ask 1) 4 ∧ u32 (ask 99999999) 4 ≤ 99999999 ∧
    (home full).holds 1001 0 full ∧ full.purse = .prepaid 99999999 ∧ (home debtor).holds 1001 0 debtor ∧
    debtor.purse = .account (-99999999) 0 ∧ (home above).holds 1001 0 above ∧ above.state = .lapsed ∧
    (5 : Int) = max (-99999999) (min (6 - (u32 (ask 1) 4 : Int)) 99999999) ∧ (5 : Int) ≤ (5 : Nat) ∧
    -99999999 ≤ i32 (ask (-99999999)) 4 ∧ i32 (ask 99999999) 4 ≤ 99999999 ∧
    ((0 : Nat) : Int) = max 0 (min ((99999999 : Nat) + i32 (ask (-99999999)) 4) 99999999) := by decide

/-- A record with a statement waiting. -/
def billed : Subscriber := { closed bound with slot := some ⟨1, 2, 2, 1, 1, 1, 1, -1, 0, 0, 1, 1, true⟩ }

theorem witness_StatementsAndBillingRequests :
    (home billed).listening ∧ (w32 1001).length = 4 ∧ (home billed).holds (u32 (w32 1001) 0) 0 billed ∧
    billed.slot = some ⟨1, 2, 2, 1, 1, 1, 1, -1, 0, 0, 1, 1, true⟩ ∧
    plant.listening ∧ plant.mode = .live ∧ (w32 44640).length = 4 ∧ plant.billing.start = some 0 ∧
    (∀ p, { plant with billing := { plant.billing with pass := some ⟨0, 5, none⟩ } }.billing.pass = some p → p.close = none) ∧
    (∀ b, plant.clock.pending = some b → b.close = none) ∧ plant.clock.minute < u32 (w32 1) 0 ∧ 0 < u32 (w32 1) 0 ∧ u32 (w32 44640) 0 ≤ 0 + 44640 ∧
    1440 ≤ u16 (w16 1440 ++ w16 0) 0 ∧ u16 (w16 44640 ++ w16 10080) 0 ≤ 44640 ∧ u16 (w16 44640 ++ w16 10080) 2 ≤ 10080 ∧
    (w16 44640 ++ w16 10080).length = 4 :=
  by
  and_intros <;> decide

/-- A metering pass that comes to the household next, its feeding element as given. -/
def metering (r : Subscriber) (state : ElementState) (close : Option Nat) : State :=
  { home r with
    elements := [(0, element 100 none 1 .up), (1, element 101 (some 0) 2 state)]
    billing := { plant.billing with pass := some ⟨9, 0, close⟩ } }

/-- An outage episode at the threshold. -/
def episode : Episode := ⟨120, 5, 120⟩

theorem metering_cut : cutOff (metering (household (.account 0 0) .active bound) .verify none) (household (.account 0 0) .active bound) ∧
    ¬cutOff (metering (household (.prepaid 1) .active bound) .suspect none) (household (.prepaid 1) .active bound) := by
  refine ⟨⟨⟨0, 1⟩, _, rfl, rfl, fun e he => ?_⟩, fun ⟨p, t, hp, ht, h⟩ => ?_⟩
  · cases he; exact .inr (.inr rfl)
  · cases hp; cases ht
    rcases h _ rfl with h | h | h <;> cases h

/-- The household at the last index, with a boundary held, when a pass comes to it. -/
def lastVisit (r : Subscriber) (close : Option Nat) : State :=
  { metering r .up none with
    subs := [(2047, r)], accounts := [(r.account, 2047)], clock := { TimeBase.reset with pending := some ⟨10, none⟩ }
    billing := { plant.billing with pass := some ⟨9, 2047, close⟩ } }

theorem witness_MeteringVisitChargesOneMinute :
    let cut := household (.account 0 0) .active bound
    let paid := household (.prepaid 1) .active bound
    let away := { household (.prepaid 2) .active bound with chargeAcc := 43199, episode := some episode }
    let ending := { household (.account 0 0) .active none with episode := some episode }
    let back := { household (.prepaid 0) .lapsed none with episode := some ⟨120, 43200, 120⟩ }
    let short := { household (.account 0 0) .suspended none with episode := some ⟨119, 5, 119⟩ }
    let s := metering cut .verify none
    plant.billing.pass = none ∧ (s.billing.pass = some ⟨9, 0, none⟩ ∧ s.tiers.length = 16 ∧ s.subs.wf = true ∧ (0 : Nat) < 2047) ∧
    -- index 2,047, with a record and a held boundary, and index 2,046 with none
    ((lastVisit paid none).billing.pass = some ⟨9, 2047, none⟩ ∧ (lastVisit paid none).subs.get? 2047 = some paid ∧ 2047 ≤ 2047 ∧
      (lastVisit paid none).subs.wf = true) ∧
    (let idle := { s with billing := { plant.billing with pass := some ⟨9, 2046, none⟩ } }; (2046 : Nat) < 2047 ∧ idle.subs.get? 2046 = none) ∧
    -- the cases of a minute's work
    (metering (closed none) .up none).subs.get? 0 = some (closed none) ∧ (closed none).state = .closed ∧
    (metering changed .up none).subs.get? 0 = some changed ∧ changed.state ≠ .active ∧ changed.state ≠ .closed ∧ changed.episode = none ∧
    (metering short .up none).subs.get? 0 = some short ∧ short.state ≠ .active ∧ short.state ≠ .closed ∧ short.episode = some ⟨119, 5, 119⟩ ∧
    119 < (metering short .up none).billing.threshold ∧ (metering back .up none).billing.threshold ≤ 120 ∧ back.state = .lapsed ∧
    hasCents (credited back ⟨120, 43200, 120⟩) = true ∧
    s.subs.get? 0 = some cut ∧ cut.state = .active ∧ cut.purse = .account 0 0 ∧ cutOff s cut ∧
    (metering ending .up none).subs.get? 0 = some ending ∧ ending.purse = .account 0 0 ∧ ending.episode = some episode ∧
    ¬cutOff (metering ending .up none) ending ∧
    (metering away .verify none).subs.get? 0 = some away ∧ away.purse = .prepaid 2 ∧ (43199 + 1) / 43200 < 2 ∧ away.episode = some episode ∧
    (metering paid .suspect none).subs.get? 0 = some paid ∧ paid.purse = .prepaid 1 ∧ ¬cutOff (metering paid .suspect none) paid ∧
    paid.episode = none ∧ (0 + 0) / 43200 < 1 ∧ (1 : Nat) ≤ (43199 + 1) / 43200 := by
  intro cut paid away ending back short s
  and_intros <;> try decide
  · exact metering_cut.1
  · exact fun ⟨_, _, hp, _⟩ => by cases hp
  · exact metering_cut.2

theorem witness_ClosePassClosesThePeriod :
    let r := { household (.account 99999999 0) .lapsed none with chargeAcc := 219031200, creditAcc := 1573500, eventCents := 499, adjCents := -100 }
    let above := { household (.account 0 0) .active none with chargeAcc := 43200 }
    let atCeiling := { household (.account 0 1) .active none with chargeAcc := 43200 }
    let short := { household (.prepaid 1) .active none with episode := some ⟨119, 5, 119⟩ }
    let long := { household (.account 0 0) .active none with episode := some episode }
    let back := { household (.prepaid 0) .lapsed none with episode := some ⟨120, 43200, 120⟩ }
    let merging := { household (.prepaid 1) .suspended none with slot := some ⟨1, 2, 255, 99999999, 1, 1, 1, -1, 0, 0, 1, 1, false⟩ }
    let s (r : Subscriber) := metering r .up (some 43200)
    ((s r).billing.pass = some ⟨9, 0, some 43200⟩ ∧ (0 : Nat) < 2047 ∧ (s r).subs.wf = true ∧ (s r).tiers.length = 16 ∧ (s r).subs.get? 0 = some r) ∧
    r.episode = none ∧ r.slot = none ∧ (r.chargeAcc + r.tierCarry) / 43200 = 5070 ∧ (r.creditAcc + r.creditRem) / 43200 = 36 ∧
    netWith r 5070 36 = 5433 ∧ (closedAt r 1).purse = .account 99999999 0 ∧
    -- an ACTIVE record above its ceiling, and one at it
    (s above).subs.get? 0 = some above ∧ above.state = .active ∧ (closedAt above 1).purse = .account 1 0 ∧ ((0 : Nat) : Int) < 1 ∧
    (s atCeiling).subs.get? 0 = some atCeiling ∧ (closedAt atCeiling 1).purse = .account 1 1 ∧ ¬((1 : Nat) : Int) < 1 ∧
    -- an open episode, below and at the threshold, and one that restores
    (s short).subs.get? 0 = some short ∧ short.episode = some ⟨119, 5, 119⟩ ∧ 119 < (s short).billing.threshold ∧
    (s long).subs.get? 0 = some long ∧ (s long).billing.threshold ≤ episode.minutes ∧ long.state ≠ .lapsed ∧
    (s back).subs.get? 0 = some back ∧ back.state = .lapsed ∧ hasCents (credited back ⟨120, 43200, 120⟩) = true ∧
    (s merging).subs.get? 0 = some merging ∧ merging.slot.isSome ∧ (closed none).state = .closed ∧
    -- the end of the pass, with a record at the last index
    (lastVisit r (some 43200)).billing.pass = some ⟨9, 2047, some 43200⟩ ∧ 2047 ≤ 2047 ∧ (lastVisit r (some 43200)).subs.get? 2047 = some r := by
  decide

/-! ## Witnesses: pay events -/

/-- The plant with slot 95 CARRIED with PAY, and an event 7 in a state. -/
def payPlant (events : Table EventRec) : State :=
  { plant with slots := List.replicate 95 Slot.reset ++ [{ Slot.reset with current := ⟨.carried, blankLabel, none, true, false⟩ }], events := events }

/-- A Define Event of event 65,535 on slot 95. -/
def defineBody (opens closes : Nat) : List Byte := w16 65535 ++ w8 95 ++ w32 opens ++ w32 closes ++ w32 99999 ++ w16 1440

theorem witness_EventRequests :
    let b := defineBody 60 1500
    let s := payPlant [(7, { eventOf .opened with slot := 95 })]
    s.listening ∧ b.length = 17 ∧ u16 b 0 ≠ 0 ∧ u8 b 2 ≤ 95 ∧ u32 b 3 < u32 b 7 ∧ u32 b 7 ≤ u32 b 3 + 1440 ∧ s.clock.minute < u32 b 7 ∧
    u32 b 11 ≤ 99999 ∧ u16 b 15 ≤ 1440 ∧ s.events.get? (u16 b 0) = none ∧ s.events.length < 32 ∧
    s.slots[u8 b 2]? = some { Slot.reset with current := ⟨.carried, blankLabel, none, true, false⟩ } ∧
    (∀ j e, (j, e) ∈ s.events → e.slot = u8 b 2 → e.state = .scheduled ∨ e.state = .opened → e.closeMinute ≤ u32 b 3 ∨ u32 b 7 ≤ e.openMinute) ∧
    (w16 7).length = 2 ∧ (payPlant [(7, eventOf .cancelled)]).events.get? (u16 (w16 7) 0) = some (eventOf .cancelled) ∧
    { eventOf .ended with walk := none }.walk = none ∧ { eventOf .ended with walk := some ⟨0, true, []⟩ }.walk.isSome ∧
    s.events.get? (u16 (w16 7) 0) = some { eventOf .opened with slot := 95 } ∧
    s.events.wf = true ∧ u16 (w16 6) 0 < 7 ∧ (∀ j, u16 (w16 6) 0 < j → j < 7 → s.events.get? j = none) ∧ 1 ≤ u8 [1#8] 0 := by
  intro b s
  and_intros <;> try first | decide | decide +kernel
  · exact all_listed (P := fun _ (e : EventRec) => e.slot = u8 (defineBody 60 1500) 2 →
      e.state = .scheduled ∨ e.state = .opened → e.closeMinute ≤ u32 (defineBody 60 1500) 3 ∨ u32 (defineBody 60 1500) 7 ≤ e.openMinute) (by decide)
  intro j h1 h2
  have h : u16 (w16 6) 0 = 6 := by decide
  omega

/-- The household `r` in a part that holds event 7. -/
def buyer (r : Subscriber) (e : EventRec) : State := { home r with events := [(7, e)] }

theorem witness_PurchasesAndTheirRefunds :
    let ask (restore : Nat) := w32 1001 ++ w16 7 ++ w8 restore
    let cash := { household (.prepaid 500) .active bound with purchases := [1, 2, 3] }
    let credit := { household (.account 0 500) .active none with eventCents := 1 }
    (buyer cash (eventOf .opened)).listening ∧ (ask 0).length = 7 ∧ (buyer cash (eventOf .opened)).holds (u32 (ask 0) 0) 0 cash ∧
    (buyer cash (eventOf .opened)).events.wf = true ∧ u16 (ask 0) 4 = 7 ∧ (buyer cash (eventOf .opened)).events.get? 7 = some (eventOf .opened) ∧
    7 ∉ cash.purchases ∧ cash.purchases.length < 4 ∧ u8 (ask 0) 6 = 0 ∧ cash.state = .active ∧
    (let now := { buyer cash (eventOf .opened) with clock := { TimeBase.reset with minute := 59 } };
      now.clock.minute < (eventOf .opened).openMinute + (eventOf .opened).cutoff) ∧
    cash.purse = .prepaid 500 ∧ (eventOf .opened).price < 500 ∧ (buyer credit (eventOf .scheduled)).holds 1001 0 credit ∧
    credit.purse = .account 0 500 ∧ (0 : Int) + credit.eventCents + (eventOf .scheduled).price ≤ (500 : Nat) ∧
    u8 (ask 1) 6 ≠ 0 ∧ { buyer changed (eventOf .opened) with mode := .loading }.mode = .loading ∧ changed.state ≠ .closed ∧
    7 ∉ changed.purchases := by decide

theorem witness_PurchasesAndTheirRefunds_returned :
    let back := w32 1001 ++ w16 7
    let cash := { household (.prepaid 500) .active bound with purchases := [1, 2, 3] }
    let has := { household (.prepaid 0) .lapsed bound with purchases := [7] }
    let owes := { household (.account 0 0) .active none with purchases := [7] }
    (buyer has (eventOf .scheduled)).listening ∧
    back.length = 6 ∧ (buyer has (eventOf .scheduled)).holds (u32 back 0) 0 has ∧ (buyer has (eventOf .scheduled)).events.get? (u16 back 4) = some (eventOf .scheduled) ∧
    7 ∈ has.purchases ∧ (eventOf .scheduled).price ≠ 0 ∧ has.purse = .prepaid 0 ∧ (buyer owes (eventOf .scheduled)).holds 1001 0 owes ∧
    owes.purse = .account 0 0 ∧ 7 ∈ owes.purchases ∧
    (let free := { eventOf .scheduled with price := 0 };
      (buyer has free).events.get? (u16 back 4) = some free ∧ free.state = .scheduled ∧ free.price = 0 ∧ (buyer has free).holds (u32 back 0) 0 has) ∧
    (let e := { eventOf .ended with walk := some ⟨1, false, [0]⟩ };
      (buyer cash e).holds (u32 back 0) 0 cash ∧ (buyer cash e).events.get? (u16 back 4) = some e ∧ 7 ∉ cash.purchases ∧
      ∀ w, e.walk = some w → 0 ∈ w.settled) ∧
    (let e := { eventOf .ended with walk := some ⟨1, false, []⟩ }; (buyer cash e).events.get? (u16 back 4) = some e ∧
      ∀ w, e.walk = some w → 0 ∉ w.settled) ∧
    (buyer has (eventOf .ended)).events.get? (u16 back 4) = some (eventOf .ended) ∧ (eventOf .ended).state ≠ .scheduled ∧
    (buyer cash (eventOf .ended)).holds (u32 back 0) 0 cash ∧
    -- cancelling
    (w16 7).length = 2 ∧ (buyer has (eventOf .opened)).events.get? (u16 (w16 7) 0) = some (eventOf .opened) ∧ (buyer has (eventOf .opened)).subs.wf = true ∧
    (buyer has (eventOf .scheduled)).events.get? (u16 (w16 7) 0) = some (eventOf .scheduled) ∧
    (buyer has (eventOf .opened)).subs.get? 0 = some has ∧ 7 ∈ has.purchases ∧ (buyer changed (eventOf .opened)).subs.get? 0 = some changed := by decide

/-- R149, R153: after the end walk's visit a purchaser's withdrawal is BAD_STATE; that of a household that did not buy is NOT_FOUND before and after. -/
theorem test_withdraw_around_the_visit :
    let ask := Instr.withdrawPurchase (w32 1001 ++ w16 7)
    let status (s : State) := (after ask s).port.answer.map Response.status
    let ends := { eventOf .ended with walk := some ⟨0, false, []⟩ }
    let has := { household (.prepaid 5) .active none with purchases := [7] }
    status (buyer has ends) = some .badState ∧ status (after (.endWalkVisit 7) (buyer has ends)) = some .badState ∧
    status (buyer changed ends) = some .notFound ∧ status (after (.endWalkVisit 7) (buyer changed ends)) = some .notFound := by decide

theorem witness_EventTableTakesABoundary :
    let s (e : EventRec) := { plant with events := [(7, e)], announced := ⟨[], [60], []⟩ }
    (s (eventOf .opened)).announced.events = 60 :: [] ∧ (s (eventOf .opened)).events.wf = true ∧
    (s (eventOf .opened)).events.get? 7 = some (eventOf .opened) ∧ (eventOf .opened).closeMinute ≤ 60 ∧
    (s (eventOf .ended)).events.get? 7 = some (eventOf .ended) ∧
    (let e := { eventOf .scheduled with openMinute := 61, closeMinute := 62 };
      (s e).events.get? 7 = some e ∧ e.state = .scheduled ∧ 60 < e.openMinute) ∧
    (let e := { eventOf .scheduled with openMinute := 60, closeMinute := 61 };
      (s e).events.get? 7 = some e ∧ e.openMinute ≤ 60 ∧ 60 < e.closeMinute) ∧
    (let e := { eventOf .opened with closeMinute := 61 }; (s e).events.get? 7 = some e ∧ e.state = .opened ∧ 60 < e.closeMinute) ∧
    (eventOf .scheduled).openMinute ≤ 60 ∧ (eventOf .scheduled).closeMinute ≤ 60 ∧
    (∀ id e, (s { eventOf .opened with closeMinute := 61 }).events.get? id = some e →
      (e.state = .scheduled → 60 < e.openMinute) ∧ (e.state = .opened → 60 < e.closeMinute)) ∧
    (∃ id e, (s (eventOf .opened)).events.get? id = some e ∧
      ((e.state = .scheduled ∧ e.openMinute ≤ 60) ∨ (e.state = .opened ∧ e.closeMinute ≤ 60))) ∧
    (∃ u : State, u = (fun u : State => u.requestSweep .all)^[2] (s (eventOf .scheduled))) := by
  intro s
  and_intros <;> try decide
  · exact all_records (P := fun _ (e : EventRec) => (e.state = .scheduled → 60 < e.openMinute) ∧ (e.state = .opened → 60 < e.closeMinute)) (by decide)
  · exact ⟨7, _, rfl, .inr (by decide)⟩
  · exact ⟨_, rfl⟩

/-- An ended event whose walk comes to index `next`. -/
def walked (next : Nat) (refund : Bool) : EventRec := { eventOf .ended with walk := some ⟨next, refund, []⟩ }

theorem witness_EndWalkVisitsARecord :
    let has := { household (.prepaid 99999999) .active none with purchases := [7] }
    let lapsed := { household (.prepaid 0) .lapsed bound with purchases := [7] }
    let owes := { household (.account 0 0) .active none with purchases := [7] }
    (buyer has (walked 0 true)).events.get? 7 = some (walked 0 true) ∧ (walked 0 true).walk = some ⟨0, true, []⟩ ∧ (buyer has (walked 0 true)).subs.wf = true ∧
    (buyer has (walked 0 true)).events.wf = true ∧ (0 : Nat) < 2047 ∧ (2046 : Nat) < 2047 ∧ (buyer has (walked 2046 true)).subs.get? 2046 = none ∧
    (buyer has (walked 0 true)).subs.get? 0 = some has ∧ 7 ∈ has.purchases ∧ 7 ∉ changed.purchases ∧ (walked 0 false).walk = some ⟨0, false, []⟩ ∧
    (walked 0 true).price ≠ 0 ∧ owes.purse = .account 0 0 ∧ has.purse = .prepaid 99999999 ∧ has.state ≠ .lapsed ∧ lapsed.state = .lapsed ∧
    lapsed.purse = .prepaid 0 ∧ (buyer lapsed (walked 0 true)).subs.get? 0 = some lapsed ∧ (buyer owes (walked 0 true)).subs.get? 0 = some owes ∧
    (walked 2047 true).walk = some ⟨2047, true, []⟩ ∧ (buyer has (walked 2047 true)).subs.get? 2047 = none ∧
    -- the last index, with a record that named the event, one of each kind
    (let last := fun r : Subscriber => { buyer r (walked 2047 true) with subs := [(2047, r)] };
      (last has).subs.get? 2047 = some has ∧ (last owes).subs.get? 2047 = some owes ∧ (last lapsed).subs.get? 2047 = some lapsed ∧
      (last has).subs.wf = true ∧ (last has).events.get? 7 = some (walked 2047 true) ∧ (last has).events.wf = true ∧ ¬ 2047 < 2047) := by decide

/-! ## Witnesses: contacts and alarms -/

/-- The plant with contact input 0 as given. -/
def withInput (x : Input) : State := { plant with inputs := x :: List.replicate 31 (Input.reset .high) }

/-- A CARRIER input for slot 95 whose pin has gone to the inactive value of its sense. -/
def carrierPulled : Input := { Input.reset .high with role := .carrier, slot := 95, sense := .levelHigh, pin := .low, timer := some 100 }

theorem witness_ContactInputs :
    let still := Input.reset .high
    let pulled := { still with pin := .low, timer := some 100 }
    plant.inputs[31]? = some still ∧ (still.role = .carrier → still.slot < plant.slots.length) ∧ Level.high = still.pin ∧ Level.low ≠ still.pin ∧
    Level.low ≠ still.level ∧ still.debounce ≠ 0 ∧ { still with debounce := 0 }.debounce = 0 ∧
    (withInput pulled).inputs[0]? = some pulled ∧ Level.high ≠ pulled.pin ∧ Level.high = pulled.level ∧ pulled.timer = some 100 ∧
    pulled.debounce ≤ 100 ∧ (∀ ms : Nat, { pulled with timer := some 99 }.timer = some ms → ms < pulled.debounce) ∧ pulled.role = .none ∧
    (let x := { pulled with role := .plain, sense := .falling }; x.role = .plain ∧ x.sense = .falling ∧ x.pin = .low) ∧
    (let x := { pulled with role := .plain, sense := .rising }; x.sense = .rising ∧ x.pin = .low) ∧
    (let x := { pulled with role := .plain, sense := .levelLow }; x.sense = .levelLow ∧ x.pin = .low) ∧
    (let x := { pulled with role := .plain, sense := .levelHigh }; x.sense = .levelHigh ∧ x.pin = .low) ∧
    -- a CARRIER input's expiry
    (withInput carrierPulled).inputs[0]? = some carrierPulled ∧ carrierPulled.role = .carrier ∧ carrierPulled.slot < (withInput carrierPulled).slots.length ∧
    carrierPulled.debounce ≤ 100 ∧ (withInput carrierPulled).Sensed ∧ plant.Sensed ∧ plant.listening := by
  intro still pulled
  and_intros <;> try first | decide | decide +kernel
  all_goals
    unfold State.Sensed
    decide

/-- An alarm unit that holds the CONTACT entry of input 31. -/
def contactAlarm (type : AlarmType) : AlarmUnit :=
  { AlarmUnit.reset with table := [(alarmKey .contact 31, ⟨.contact, 31, type, .raised, 1, 1, ⟨0, 0⟩, ⟨0, 0⟩⟩)], seq := 1 }

/-- Contact input 31 standing with a level sense, and its entry. -/
def standing : State := { plant with
  inputs := List.replicate 31 (Input.reset .high) ++ [{ Input.reset .high with role := .plain, standing := true }], alarms := contactAlarm .condition }

theorem witness_ContactInputs_configure :
    let plain := w8 31 ++ w8 1 ++ w8 0 ++ w8 2 ++ w16 2550
    let level := w8 31 ++ w8 1 ++ w8 0 ++ w8 3 ++ w16 0
    let carrier := w8 31 ++ w8 2 ++ w8 95 ++ w8 4 ++ w16 0
    (standing.listening ∧ standing.Sensed ∧ plain.length = 6 ∧ u8 plain 0 = 31 ∧ u8 plain 0 ≤ 31) ∧
    standing.inputs[31]? = some { Input.reset .high with role := .plain, standing := true } ∧ roleOf (u8 plain 1) = some .plain ∧
    senseOf (u8 plain 3) = some .both ∧ u16 plain 4 ≤ 2550 ∧ u16 plain 4 % 10 = 0 ∧
    (∃ a : AlarmUnit, contactEnded standing.alarms a 31 true .plain .occurrence) ∧
    (∃ a : AlarmUnit, contactEnded (contactAlarm .occurrence) a 31 false .plain .condition) ∧
    (∃ a : AlarmUnit, contactEnded plant.alarms a 31 false .plain .condition) ∧
    senseOf (u8 level 3) = some .levelHigh ∧ (Input.reset .high).level = .high ∧ roleOf (u8 (w8 31 ++ w8 0) 1) = some .none ∧
    -- to CARRIER, and from it
    (roleOf (u8 carrier 1) = some .carrier ∧ senseOf (u8 carrier 3) = some .levelLow ∧ u8 carrier 2 ≤ 95 ∧ u8 carrier 2 < plant.slots.length) ∧
    (withInput carrierPulled).inputs[0]? = some carrierPulled ∧ carrierPulled.role = .carrier ∧ carrierPulled.slot < (withInput carrierPulled).slots.length := by
  intro plain level carrier
  and_intros <;> try first | decide | decide +kernel
  · unfold State.Sensed
    decide
  · let a := standing.alarms.endCondition .contact 31
    refine ⟨{ a with table := a.table.erase (alarmKey .contact 31) }, a, rfl, fun h => ?_, fun _ e he => ?_⟩
    · exact absurd h (by decide)
    · cases he
      exact ⟨fun h => (by cases h), fun _ => rfl⟩
  · let a := contactAlarm .occurrence
    refine ⟨{ a with table := a.table.erase (alarmKey .contact 31) }, a, rfl, fun h => ?_, fun _ e he => ?_⟩
    · exact absurd h (by decide)
    · cases he
      exact ⟨fun h => (by cases h), fun _ => rfl⟩
  · exact ⟨plant.alarms, _, rfl, fun _ => rfl, fun _ e he => by cases he⟩

/-- An alarm unit that holds one entry, for TAP_SILENT of tap 511. -/
def oneAlarm (state : EntryState) : AlarmUnit :=
  { AlarmUnit.reset with table := [(alarmKey .tapSilent 511, ⟨.tapSilent, 511, .condition, state, 255, 1, ⟨0, 0⟩, ⟨0, 0⟩⟩)], seq := 1 }

/-- A full alarm table. -/
def fullAlarms : AlarmUnit :=
  { AlarmUnit.reset with
    table := (List.range 128).map fun n => (alarmKey .elementDown n, ⟨.elementDown, n, .condition, .raised, 1, n + 1, ⟨0, 0⟩, ⟨0, 0⟩⟩)
    seq := 4294967294 }

/-- The entry of TABLE_OVERFLOW in a state. -/
def lost (state : EntryState) : Entry := ⟨.tableOverflow, 0, .occurrence, state, 1, 129, ⟨0, 0⟩, ⟨0, 0⟩⟩

theorem witness_AlarmRaiseAndEnd :
    { AlarmUnit.reset with levels := List.replicate 15 0 }.level .tapSilent = 0 ∧ AlarmKind.tapSilent ≠ .tableOverflow ∧
    AlarmUnit.reset.level .tapSilent ≠ 0 ∧ AlarmUnit.reset.seq < 4294967295 ∧ AlarmUnit.reset.table.get? (alarmKey .tapSilent 511) = none ∧
    AlarmUnit.reset.table.length < 128 ∧ fullAlarms.seq < 4294967295 ∧ fullAlarms.table.get? (alarmKey .tapSilent 511) = none ∧
    128 ≤ fullAlarms.table.length ∧ fullAlarms.level .tableOverflow ≠ 0 ∧ fullAlarms.overflow = none ∧
    { fullAlarms with levels := 0 :: fullAlarms.levels.tail }.level .tableOverflow = 0 ∧
    { fullAlarms with overflow := some (lost .raised) }.overflow = some (lost .raised) ∧ (lost .raised).kind = .tableOverflow ∧
    (lost .raised).state = .raised ∧
    (oneAlarm .raised).table.get? (alarmKey .tapSilent 511) = some ⟨.tapSilent, 511, .condition, .raised, 255, 1, ⟨0, 0⟩, ⟨0, 0⟩⟩ ∧
    (oneAlarm .reported).table.get? (alarmKey .tapSilent 511) = some ⟨.tapSilent, 511, .condition, .reported, 255, 1, ⟨0, 0⟩, ⟨0, 0⟩⟩ ∧
    (oneAlarm .acked).table.get? (alarmKey .tapSilent 511) = some ⟨.tapSilent, 511, .condition, .acked, 255, 1, ⟨0, 0⟩, ⟨0, 0⟩⟩ ∧
    (oneAlarm .cleared).table.get? (alarmKey .tapSilent 511) = some ⟨.tapSilent, 511, .condition, .cleared, 255, 1, ⟨0, 0⟩, ⟨0, 0⟩⟩ ∧
    -- at the top of the sequence counter: a new entry, one refused for room, and one raised again
    (let top := { AlarmUnit.reset with seq := 4294967295 }; top.seq = 4294967295 ∧ top.table.length ≤ 128 ∧ top.level .tapSilent ≠ 0 ∧
      top.table.get? (alarmKey .tapSilent 511) = none ∧ top.table.length < 128) ∧
    (let top := { fullAlarms with seq := 4294967295 }; top.table.length ≤ 128 ∧ top.table.get? (alarmKey .tapSilent 511) = none ∧
      top.level .tableOverflow ≠ 0 ∧ top.overflow = none) ∧
    { oneAlarm .cleared with seq := 4294967295 }.table.get? (alarmKey .tapSilent 511) =
      some ⟨.tapSilent, 511, .condition, .cleared, 255, 1, ⟨0, 0⟩, ⟨0, 0⟩⟩ := by
  decide +kernel

theorem witness_AlarmRaiseAndEnd_ends :
    AlarmUnit.reset.find? .tapSilent 511 = none ∧ (oneAlarm .raised).table.wf = true ∧
    (∀ e, (oneAlarm .raised).table.get? (alarmKey .tapSilent 511) = some e → e.kind = .tapSilent) ∧
    (∀ state ∈ [EntryState.raised, .reported, .acked, .cleared], (oneAlarm state).find? .tapSilent 511 =
      some ⟨.tapSilent, 511, .condition, state, 255, 1, ⟨0, 0⟩, ⟨0, 0⟩⟩) ∧
    { fullAlarms with overflow := some (lost .acked) }.find? .tableOverflow 0 = some (lost .acked) ∧
    (∀ e : Entry, ∃ put : EntryState → AlarmUnit, ∀ x : EntryState, put x = (if AlarmKind.tapSilent = .tableOverflow then oneAlarm .raised
      else { oneAlarm .raised with table := (oneAlarm .raised).table.set (alarmKey .tapSilent 511) { e with state := x } })) := by
  and_intros <;> try first | decide | decide +kernel
  · exact fun _ => ⟨_, fun _ => rfl⟩

/-- Two presentable entries: TAP_SILENT of tap 511 before CREDIT_CHANGE. -/
def twoAlarms : AlarmUnit :=
  { AlarmUnit.reset with
    table := [(alarmKey .tapSilent 511, ⟨.tapSilent, 511, .condition, .raised, 1, 2, ⟨0, 0⟩, ⟨0, 0⟩⟩),
      (alarmKey .creditChange 0, ⟨.creditChange, 0, .occurrence, .raised, 1, 1, ⟨0, 0⟩, ⟨0, 0⟩⟩)]
    seq := 2 }

theorem witness_FetchAlarmPresentsTheFirst :
    let e : Entry := ⟨.tapSilent, 511, .condition, .raised, 1, 2, ⟨0, 0⟩, ⟨0, 0⟩⟩
    let s := { plant with alarms := { twoAlarms with overflow := some (lost .reported) } }
    (plant.listening ∧ plant.attn = false) ∧ s.listening ∧ s.alarms.table.wf = true ∧ (lost .reported).state ≠ .raised ∧
    s.alarms.table.get? (alarmKey .tapSilent 511) = some e ∧ alarmKey .tapSilent 511 = alarmKey e.kind e.subject ∧ e.kind ≠ .tableOverflow ∧
    e.state = .raised ∧ s.alarms.mask < s.alarms.level e.kind ∧
    (∀ o, s.alarms.overflow = some o → o.state = .raised → s.alarms.mask < s.alarms.level o.kind → shownBefore s.alarms e o) ∧
    (∀ k' e', s.alarms.table.get? k' = some e' → k' ≠ alarmKey .tapSilent 511 → e'.state = .raised →
      s.alarms.mask < s.alarms.level e'.kind → shownBefore s.alarms e e') := by
  intro e s
  and_intros <;> try decide
  · intro o ho hs
    cases ho
    cases hs
  · intro k' e' h hk _ _
    have hm := Table.mem_of_get? h
    simp only [s, twoAlarms, List.mem_cons, Prod.mk.injEq, List.not_mem_nil, or_false] at hm
    obtain ⟨rfl, rfl⟩ | ⟨rfl, rfl⟩ := hm
    · exact absurd rfl hk
    · exact .inl (by decide)

theorem witness_FetchAlarmPresentsTheFirst_overflow :
    let s := { plant with alarms := { twoAlarms with overflow := some (lost .raised) } }
    s.listening ∧ s.alarms.table.wf = true ∧ s.alarms.overflow = some (lost .raised) ∧ (lost .raised).kind = .tableOverflow ∧
    (lost .raised).type = .occurrence ∧ (lost .raised).state = .raised ∧ s.alarms.mask < s.alarms.level (lost .raised).kind ∧
    (∀ k' e', s.alarms.table.get? k' = some e' → e'.state = .raised → s.alarms.mask < s.alarms.level e'.kind → shownBefore s.alarms (lost .raised) e') := by
  intro s
  and_intros <;> try decide
  intro k' e' h _ _
  have hm := Table.mem_of_get? h
  simp only [s, twoAlarms, List.mem_cons, Prod.mk.injEq, List.not_mem_nil, or_false] at hm
  obtain ⟨rfl, rfl⟩ | ⟨rfl, rfl⟩ := hm <;> exact .inl (by decide)

theorem two_keys {j : Nat} (h : twoAlarms.table.get? j ≠ none) : j = alarmKey .tapSilent 511 ∨ j = alarmKey .creditChange 0 := by
  obtain ⟨x, hx⟩ := Option.ne_none_iff_exists'.mp h
  have hm := Table.mem_of_get? hx
  simp only [twoAlarms, List.mem_cons, Prod.mk.injEq, List.not_mem_nil, or_false] at hm
  exact hm.imp And.left And.left

theorem witness_AlarmRequests :
    let ask := w8 11 ++ w16 511
    let s (state : EntryState) := { plant with alarms := oneAlarm state }
    (s .raised).listening ∧ ask.length = 3 ∧ u8 ask 0 = AlarmKind.tapSilent.rank ∧ AlarmKind.tapSilent.subjectOk (u16 ask 1) = true ∧
    (s .reported).alarms.table.get? (alarmKey .tapSilent (u16 ask 1)) = some ⟨.tapSilent, 511, .condition, .reported, 255, 1, ⟨0, 0⟩, ⟨0, 0⟩⟩ ∧
    (s .cleared).alarms.table.get? (alarmKey .tapSilent (u16 ask 1)) = some ⟨.tapSilent, 511, .condition, .cleared, 255, 1, ⟨0, 0⟩, ⟨0, 0⟩⟩ ∧
    -- TABLE_OVERFLOW, and no entry
    (let ask := w8 1 ++ w16 0;
      u8 ask 0 = AlarmKind.tableOverflow.rank ∧ AlarmKind.tableOverflow.subjectOk (u16 ask 1) = true ∧
      { fullAlarms with overflow := some (lost .raised) }.overflow = some (lost .raised) ∧ (lost .raised).type = .occurrence ∧
      fullAlarms.overflow = none) ∧
    plant.alarms.table.get? (alarmKey .tapSilent (u16 ask 1)) = none ∧ AlarmKind.tapSilent ≠ .tableOverflow ∧
    -- Next Alarm, from the start, from the entry before and from the last
    (let n := { plant with alarms := twoAlarms };
      n.alarms.overflow = none ∧ n.alarms.table.wf = true ∧ u8 (w8 15 ++ w16 65535) 0 ≤ 15 ∧
      n.alarms.table.get? (alarmKey .tapSilent 511) = some ⟨.tapSilent, 511, .condition, .raised, 1, 2, ⟨0, 0⟩, ⟨0, 0⟩⟩ ∧ u8 [0#8, 0#8, 0#8] 0 = 0 ∧
      n.alarms.table.get? (alarmKey .creditChange 0) = some ⟨.creditChange, 0, .occurrence, .raised, 1, 1, ⟨0, 0⟩, ⟨0, 0⟩⟩ ∧
      alarmKeyOf (u8 ask 0) (u16 ask 1) < alarmKey .creditChange 0) ∧
    (∀ o, { twoAlarms with overflow := some (lost .raised) }.overflow = some o → o.kind = .tableOverflow ∧ o.subject = 0) ∧
    -- levels and mask
    (w8 2 ++ w8 7).length = 2 ∧ u8 (w8 2 ++ w8 7) 0 = AlarmKind.meterSlip.rank ∧ 1 ≤ u8 (w8 2 ++ w8 1) 1 ∧ u8 (w8 2 ++ w8 7) 1 ≤ 7 ∧
    u8 (w8 2 ++ w8 0) 1 = 0 ∧ u8 [7#8] 0 ≤ 7 := by
  intro ask s
  and_intros <;> decide

/-- Next Alarm over the two entries: what comes after TAP_SILENT of tap 511, and after the last place of the order. -/
theorem witness_AlarmRequests_next :
    (∀ j x, twoAlarms.table.get? j = some x → j = alarmKey x.kind x.subject ∧ x.subject ≤ 65535) ∧
    (∀ j, j < alarmKey .creditChange 0 → twoAlarms.table.get? j ≠ none →
      u8 (w8 11 ++ w16 511) 0 ≠ 0 ∧ j ≤ alarmKeyOf (u8 (w8 11 ++ w16 511) 0) (u16 (w8 11 ++ w16 511) 1)) ∧
    (∀ j, twoAlarms.table.get? j ≠ none →
      u8 (w8 15 ++ w16 65535) 0 ≠ 0 ∧ j ≤ alarmKeyOf (u8 (w8 15 ++ w16 65535) 0) (u16 (w8 15 ++ w16 65535) 1)) := by
  refine ⟨all_records (P := fun j (x : Entry) => j = alarmKey x.kind x.subject ∧ x.subject ≤ 65535) (by decide), fun j hj h => ?_, fun j h => ?_⟩
  · obtain rfl | rfl := two_keys h
    · exact ⟨by decide, by decide⟩
    · exact absurd hj (Nat.lt_irrefl _)
  · obtain rfl | rfl := two_keys h <;> exact ⟨by decide, by decide⟩

end Sys2Proof.Tests
end

section
/-! PROOFS. R38: the tiers after a hard reset and after Clear Store, and no staged rate in LOADING. Six commands write the tiers or the device mode; every
other one leaves both as they were, which makes the invariant of the statement a matter of those six. -/

namespace Sys2Proof.Machine

variable {s t : State} {c : Instr}

/-! ## What leaves the tiers and the device mode alone -/

/-- `t` has the device mode and the tiers of `s`. -/
def State.SameTiers (s t : State) : Prop := t.mode = s.mode ∧ t.tiers = s.tiers

/-- A command leads from `s` to a state with the same device mode and tiers. -/
def Out.KeepsTiers (s : State) (o : Out) : Prop := ∃ t, o = .next t ∧ s.SameTiers t

/-- The commands that write the tiers or the device mode. -/
def movesTiers : Instr → Bool
  | .hardReset _ | .clearStore _ | .goLive _ | .defineTier _ | .stageTierRate _ | .meteringVisit => true
  | _ => false

@[simp] theorem sameTiers_iff : State.SameTiers s t ↔ t.mode = s.mode ∧ t.tiers = s.tiers := Iff.rfl

@[simp] theorem keepsTiers_next : Out.KeepsTiers s (.next t) ↔ s.SameTiers t :=
  ⟨fun ⟨_, h, hst⟩ => by cases h; exact hst, fun h => ⟨t, rfl, h⟩⟩

@[simp] theorem State.refuse_fst (s : State) (x : Status) : (s.refuse x).1 = s := rfl

@[simp] theorem State.served_fst (s : State) (body : List Byte) : (s.served body).1 = s := rfl

theorem foldl_sameTiers {α : Type} {f : State → α → State} (h : ∀ s x, State.SameTiers s (f s x)) (l : List α) (s : State) :
    s.SameTiers (l.foldl f s) :=
  ⟨foldl_keep State.mode (fun s x => (h s x).1) l s, foldl_keep State.tiers (fun s x => (h s x).2) l s⟩

theorem withAccount_sameTiers {account : Nat} {rest : Nat → Subscriber → Served} (h : ∀ i r, s.SameTiers (rest i r).1) :
    s.SameTiers (s.withAccount account rest).1 := by
  unfold State.withAccount
  split
  · simp
  · exact h _ _

theorem withTap_sameTiers {tap : Nat} {rest : Tap → Served} (h : ∀ t, s.SameTiers (rest t).1) :
    s.SameTiers (s.withTap tap rest).1 := by
  unfold State.withTap
  split
  · simp
  · split
    · simp
    · exact h _

theorem withElement_sameTiers {e : Nat} {rest : Element → Served} (h : ∀ x, s.SameTiers (rest x).1) :
    s.SameTiers (s.withElement e rest).1 := by
  unfold State.withElement
  split
  · simp
  · split
    · simp
    · exact h _

/-! ## Requests -/

section Request

variable {n : Nat} {modes : Modes} {body : List Byte} {owner : State → Served}

/-- R175: the port itself leaves the tiers and the mode alone, and asks the owner only in a mode that serves the request. -/
theorem request_sameTiers_or :
    s.SameTiers (request n modes body owner s) ∨
      (modes.allow s.mode = true ∧ (owner s).1.SameTiers (request n modes body owner s)) := by
  by_cases hi : s.port.selectIgnored = true
  · simp [request_ignored hi]
  by_cases hs : s.port.state = .serving
  · simp [request_serving (Bool.eq_false_iff.mpr hi) hs]
  have hl : s.listening := ⟨hs, Bool.eq_false_iff.mpr hi⟩
  by_cases hb : body.length = n
  · cases hm : modes.allow s.mode
    · simp [request_wrongMode hl hb hm]
    · simp [request_owner hl hb hm]
  · simp [request_badLength hl hb]

theorem request_keepsTiers (h : s.SameTiers (owner s).1) : Out.KeepsTiers s (.next (request n modes body owner s)) := by
  rw [keepsTiers_next]
  obtain hr | ⟨-, hm, ht⟩ := request_sameTiers_or (s := s)
  · exact hr
  · exact ⟨hm.trans h.1, ht.trans h.2⟩

end Request

/-- The requests, other than Clear Store, Go Live, Define Tier and Stage Tier Rate. -/
theorem exec_request_keepsTiers (hr : requestRow c ≠ none) (hc : movesTiers c = false) : Out.KeepsTiers s (exec c s) := by
  cases c
  case clearStore | goLive | defineTier | stageTierRate => cases hc
  -- the owner looks for the account first
  case readSubscriber | changeTiers | unbind | activate | suspend | resume | closeSubscriber | retireSubscriber |
      collectStatement | withdrawPurchase =>
    exact request_keepsTiers (withAccount_sameTiers fun i r => by (repeat' split) <;> simp)
  -- the owner tests the fields of the body, or finds an account of its own, and then looks for the account
  case nextSubscriber | nextChangedSubscriber | setCeiling | bind | move | topUp | postPayment | postAdjustment =>
    apply request_keepsTiers
    simp only [nextSubscriberOwner, nextChangedSubscriberOwner, setCeilingOwner, bindOwner, moveOwner, topUpOwner,
      postPaymentOwner, postAdjustmentOwner]
    split
    · simp
    · exact withAccount_sameTiers fun i r => by (repeat' split) <;> simp
  case purchase =>
    apply request_keepsTiers
    simp only [purchaseOwner, State.purchase]
    split
    · simp
    · split
      · simp
      · exact withAccount_sameTiers fun i r => by (repeat' split) <;> simp
  -- the owner looks for the tap, or for the element
  case retireTap | readTap | resendTap => exact request_keepsTiers (withTap_sameTiers fun t => by (repeat' split) <;> simp)
  case retireElement | readElement =>
    exact request_keepsTiers (withElement_sameTiers fun x => by (repeat' split) <;> simp [State.endConditions])
  -- the owner has no test
  case readStatus | readSwitching | setReference | readClock | readBilling | readInputs | readAlarmUnit =>
    exact request_keepsTiers (by simp [readStatusOwner])
  -- the owner has one test, or several in turn
  case setEventParameters | setAlarmMask => exact request_keepsTiers (by split <;> simp)
  case enrol | defineChannel | stageChannelChange | withdrawStagedChange | readChannel | readTier =>
    apply request_keepsTiers
    simp only [enrolOwner, State.enrolAt, defineChannelOwner, stageChannelOwner, withdrawStagedOwner, readChannelOwner,
      readTierOwner]
    (repeat' split) <;> simp
  case enrolTap | setLinkParameters | readLeg | enrolElement | nextElement | setTopologyParameters =>
    apply request_keepsTiers
    simp only [enrolTapOwner, setLinkOwner, readLegOwner, enrolElementOwner, State.enrolElement, nextElementOwner,
      setTopologyOwner]
    (repeat' split) <;> simp
  case setClock | adjustClock | setNextClose | setBillingParameters =>
    apply request_keepsTiers
    simp only [setClockOwner, adjustClockOwner, setNextCloseOwner, setBillingOwner]
    (repeat' split) <;> simp
  case defineEvent | cancelEvent | removeEvent | readEvent | nextEvent =>
    apply request_keepsTiers
    simp only [defineEventOwner, cancelEventOwner, removeEventOwner, readEventOwner, nextEventOwner]
    (repeat' split) <;> simp
  case configureInput | fetchAlarm | acknowledgeAlarm | readAlarm | nextAlarm | setAlarmLevel =>
    apply request_keepsTiers
    simp only [configureInputOwner, fetchAlarmOwner, ackOwner, readAlarmOwner, nextAlarmOwner, setAlarmLevelOwner]
    (repeat' split) <;> simp
  all_goals exact absurd rfl hr

/-- The other commands of the table, but for a hard reset and a metering visit. -/
theorem exec_event_keepsTiers (hr : requestRow c = none) (hc : movesTiers c = false) : Out.KeepsTiers s (exec c s) := by
  cases c
  case hardReset | meteringVisit => cases hc
  -- the Request Port
  case requestFrameDiscarded | partialFrameDiscarded | unknownRequest | responseReady | readSelect =>
    simp only [exec, execRequestFrameDiscarded, execPartialFrameDiscarded, execUnknownRequest, execResponseReady,
      execReadSelect]
    (repeat' split) <;> simp
  -- the Time Base
  case secondEdge | referencePulse | lossTimerExpiry =>
    simp only [exec, execSecondEdge, execReferencePulse, execLossTimerExpiry, State.loseReference]
    (repeat' split) <;> simp
  -- a boundary
  case lineupTakesBoundary | eventTableTakesBoundary =>
    simp only [exec, execLineupTakesBoundary, execEventTableTakesBoundary]
    split
    · simp
    · simpa using foldl_sameTiers (fun s i => by simp) _ _
  case tapTableTakesBoundary =>
    simp only [exec, execTapTableTakesBoundary]
    split <;> simp
  -- the walks, the sweep and the countdown
  case silentCountdownExpiry | endWalkVisit | sweepVisit =>
    simp only [exec, execSilentCountdownExpiry, execEndWalkVisit, execSweepVisit]
    (repeat' split) <;> simp
  -- the legs
  case replyFrameReceived => exact keepsTiers_next.mpr (foldl_sameTiers (fun s x => by simp) _ _)
  case legTakesWork | frameTransmitted | tryTimerExpiry | pollCycleExpiry | returnFaultBegins | returnFaultEnds |
      frameCutShort =>
    simp only [exec, execLegTakesWork, execFrameTransmitted, execTryTimerExpiry, execPollCycleExpiry, execReturnFaultBegins,
      execReturnFaultEnds, execFrameCutShort]
    (repeat' split) <;> simp
  -- the contact inputs
  case pinLevelChange | debounceTimerExpiry =>
    simp only [exec, execPinLevelChange, execDebounceTimerExpiry]
    (repeat' split) <;> simp
  all_goals cases hr

theorem exec_keepsTiers (hc : movesTiers c = false) : Out.KeepsTiers s (exec c s) := by
  by_cases hr : requestRow c = none
  · exact exec_event_keepsTiers hr hc
  · exact exec_request_keepsTiers hr hc

theorem State.tick_sameTiers (s : State) : s.SameTiers s.tick := by
  unfold State.tick
  split <;> simp

/-! ## The six commands that write the tiers or the device mode -/

/-- R38: in LOADING no tier holds a staged rate. -/
def State.LoadingStagesNone (s : State) : Prop := s.mode = .loading → ∀ x ∈ s.tiers, x.staged = none

theorem State.SameTiers.loadingStagesNone (h : s.SameTiers t) (hs : s.LoadingStagesNone) : t.LoadingStagesNone := by
  obtain ⟨hm, ht⟩ := h
  intro hl
  rw [ht]
  exact hs (hm ▸ hl)

theorem loadingStagesNone_of_live (h : s.mode = .live) : s.LoadingStagesNone := fun hl => by simp [h] at hl

/-- A request keeps the invariant where its owner does, in a mode that serves the request. -/
theorem request_loadingStagesNone {n : Nat} {modes : Modes} {body : List Byte} {owner : State → Served}
    (hs : s.LoadingStagesNone) (ho : modes.allow s.mode = true → (owner s).1.LoadingStagesNone) :
    (request n modes body owner s).LoadingStagesNone := by
  obtain hr | ⟨hm, hr⟩ := request_sameTiers_or (s := s)
  · exact hr.loadingStagesNone hs
  · exact hr.loadingStagesNone (ho hm)

/-- A change to one tier that leaves its staged rate alone keeps the invariant. -/
theorem updTier_loadingStagesNone {i : Nat} {f : Tier → Tier} (hf : ∀ x, (f x).staged = x.staged) (hs : s.LoadingStagesNone) :
    (s.updTier i f).LoadingStagesNone := by
  intro hl x hx
  obtain ⟨j, hj⟩ := List.mem_iff_getElem?.mp hx
  simp only [State.updTier, List.getElem?_modify, Option.map_eq_map, Option.map_eq_some_iff] at hj
  obtain ⟨y, hy, rfl⟩ := hj
  have hn := hs hl y (List.mem_of_getElem? hy)
  split <;> simp [hf, hn]

theorem State.clearStore_mode (s : State) : s.clearStore.mode = .loading := rfl

theorem State.clearStore_tiers (s : State) : s.clearStore.tiers = s.tiers.map fun _ => Tier.reset := by
  simp [State.clearStore, State.emptied]

theorem State.clearStore_loadingStagesNone (s : State) : s.clearStore.LoadingStagesNone := by
  intro _ x hx
  rw [s.clearStore_tiers] at hx
  obtain ⟨_, _, rfl⟩ := List.mem_map.mp hx
  rfl

theorem State.goLive_mode (s : State) : s.goLive.mode = .live := by
  unfold State.goLive
  exact (foldl_keep State.mode (by simp) _ _).trans (by simp)

/-- R41: the swap of a tier leaves no staged rate. -/
theorem Tier.swapped_staged (x : Tier) : x.swapped.staged = none := by
  unfold Tier.swapped
  split
  · assumption
  · rfl

/-- R132: the end of a pass leaves the tiers alone, or swaps them all. -/
theorem State.endPass_tiers (s : State) (p : Pass) :
    (s.endPass p).tiers = s.tiers ∨ (s.endPass p).tiers = s.tiers.map Tier.swapped := by
  unfold State.endPass
  dsimp only
  (repeat' split) <;> simp [State.endClose]

theorem endPass_loadingStagesNone {p : Pass} (hs : s.LoadingStagesNone) : (s.endPass p).LoadingStagesNone := by
  obtain ht | ht := s.endPass_tiers p
  · exact State.SameTiers.loadingStagesNone ⟨by simp, ht⟩ hs
  · intro _ x hx
    rw [ht] at hx
    obtain ⟨y, _, rfl⟩ := List.mem_map.mp hx
    exact y.swapped_staged

theorem hardReset_tiers (b : Bool) (s : State) :
    ∃ t, exec (.hardReset b) s = .next t ∧ t.tiers = List.replicate 16 Tier.reset := ⟨_, rfl, rfl⟩

theorem meteringVisit_loadingStagesNone (hs : s.LoadingStagesNone) (h : exec .meteringVisit s = .next t) : t.LoadingStagesNone := by
  simp only [exec, execMeteringVisit] at h
  split at h
  · cases h
    exact hs
  next p _ =>
    have hv : (s.visit p.next p.close.isSome).LoadingStagesNone := State.SameTiers.loadingStagesNone (by simp) hs
    split at h
    · cases h
      exact hv
    · cases h
      exact endPass_loadingStagesNone hv

/-! ## Every command and every step -/

theorem exec_loadingStagesNone (hs : s.LoadingStagesNone) (h : exec c s = .next t) : t.LoadingStagesNone := by
  cases hc : movesTiers c
  · obtain ⟨u, hu, hst⟩ := exec_keepsTiers (s := s) hc
    obtain rfl : u = t := by simpa [hu] using h
    exact hst.loadingStagesNone hs
  cases c
  case hardReset b =>
    obtain ⟨u, hu, htiers⟩ := hardReset_tiers b s
    obtain rfl : u = t := by simpa [hu] using h
    intro _ x hx
    rw [htiers] at hx
    rw [List.eq_of_mem_replicate hx]
    rfl
  case clearStore =>
    cases h
    exact request_loadingStagesNone hs fun _ => s.clearStore_loadingStagesNone
  case goLive =>
    cases h
    refine request_loadingStagesNone hs fun _ => ?_
    unfold goLiveOwner
    split
    · exact hs
    · exact loadingStagesNone_of_live s.goLive_mode
  case defineTier =>
    cases h
    refine request_loadingStagesNone hs fun _ => ?_
    split
    · exact hs
    · exact updTier_loadingStagesNone (fun _ => rfl) hs
  case stageTierRate =>
    cases h
    refine request_loadingStagesNone hs fun hm => ?_
    have hlive : s.mode = .live := by simpa [Modes.allow] using hm
    split
    · exact hs
    · exact loadingStagesNone_of_live (by simp [hlive])
  case meteringVisit => exact meteringVisit_loadingStagesNone hs h
  all_goals cases hc

theorem step_loadingStagesNone (hs : s.LoadingStagesNone) (h : step s = .next t) : t.LoadingStagesNone := by
  unfold step at h
  split at h
  · cases h
    exact s.tick_sameTiers.loadingStagesNone hs
  next rest _ => exact exec_loadingStagesNone (s := { s with pending := rest }) hs h

/-- Settles O30: every step keeps `State.LoadingStagesNone`, since only six commands write the tiers or the device mode. -/
theorem tiersAreResetAndLoadingStagesNone : Obligations.TiersAreResetAndLoadingStagesNone := by
  refine ⟨fun s b => ?_, fun s hl => ?_, fun _ _ => step_loadingStagesNone, rfl, by decide⟩
  · obtain ⟨t, ht, htiers⟩ := hardReset_tiers b s
    exact ⟨t, ht, by simp [htiers], fun x hx => List.eq_of_mem_replicate (htiers ▸ hx)⟩
  · exact ⟨s.clearStore, congrArg _ (request_owner_both hl rfl), s.clearStore_mode, s.clearStore_tiers⟩

end Sys2Proof.Machine
end

section
/-! PROOFS. R162 to R164: the raise of an alarm and the end of a condition. The reserved place of TABLE_OVERFLOW and the table are told apart once, in the
equations of `find?`, `put` and `remove`; what follows speaks of an entry's place through how those three compose. -/

namespace Sys2Proof.Machine

/-! ## A table changed twice at one number -/

section Table

variable {α : Type}

@[simp] theorem Table.set_set (t : Table α) (k : Nat) (x y : α) : Table.set k y (Table.set k x t) = Table.set k y t := by
  induction t with
  | nil => simp [Table.set]
  | cons p t ih =>
    obtain ⟨i, z⟩ := p
    rcases lt_trichotomy k i with h | rfl | h
    · simp [Table.set, h]
    · simp [Table.set]
    · simp [Table.set, h.ne, not_lt_of_gt h, ih]

@[simp] theorem Table.erase_set (t : Table α) (k : Nat) (x : α) : Table.erase k (Table.set k x t) = Table.erase k t := by
  induction t with
  | nil => simp [Table.set, Table.erase]
  | cons p t ih =>
    obtain ⟨i, z⟩ := p
    unfold Table.erase at ih ⊢
    rcases lt_trichotomy k i with h | rfl | h
    · simp [Table.set, h]
    · simp [Table.set]
    · simp [Table.set, h.ne, not_lt_of_gt h, ih]

/-- To a test that a record fails, putting the record at a number is as good as removing the number. -/
theorem Table.filter_set_eq_filter_erase {t : Table α} (h : t.wf = true) {p : α → Bool} {k : Nat} {x : α} (hx : p x = false) :
    ((Table.set k x t).map Prod.snd).filter p = ((Table.erase k t).map Prod.snd).filter p := by
  rw [← Table.erase_set t k x]
  have hwf := Table.wf_set h k x
  have hget := Table.get?_set_self t k x
  generalize Table.set k x t = u at hwf hget
  simp only [Table.erase, List.filter_map, List.filter_filter]
  refine congrArg _ (List.filter_congr fun q hq => ?_)
  obtain ⟨i, y⟩ := q
  by_cases hi : i = k
  · subst hi
    obtain rfl : x = y := by simpa [hget] using (Table.get?_eq_some_iff hwf i y).mpr hq
    simp [hx]
  · simp [hi]

/-- A filtered table reads as empty where the record read before fails the test. -/
theorem Table.get?_filter_eq_none {t : Table α} (h : t.wf = true) {p : Nat × α → Bool} {k : Nat}
    (hp : ∀ x, Table.get? k t = some x → p (k, x) = false) : Table.get? (α := α) k (t.filter p) = none := by
  refine Option.eq_none_iff_forall_ne_some.mpr fun x hx => ?_
  obtain ⟨hmem, hpass⟩ := List.mem_filter.mp (Table.mem_of_get? hx)
  simp [hp x ((Table.get?_eq_some_iff h k x).mpr hmem)] at hpass

end Table

/-! ## An entry's place -/

section Places

variable {a : AlarmUnit} {k : AlarmKind} {subject : Nat} {e x : Entry}

theorem AlarmUnit.find?_eq (a : AlarmUnit) (k : AlarmKind) (subject : Nat) :
    a.find? k subject = if k = .tableOverflow then a.overflow else a.table.get? (alarmKey k subject) := by
  unfold AlarmUnit.find?
  split <;> simp_all

theorem AlarmUnit.put_eq (a : AlarmUnit) (e : Entry) :
    a.put e = if e.kind = .tableOverflow then { a with overflow := some e }
      else { a with table := a.table.set (alarmKey e.kind e.subject) e } := by
  unfold AlarmUnit.put
  split <;> simp_all

theorem AlarmUnit.remove_eq (a : AlarmUnit) (k : AlarmKind) (subject : Nat) :
    a.remove k subject = if k = .tableOverflow then { a with overflow := none }
      else { a with table := a.table.erase (alarmKey k subject) } := by
  unfold AlarmUnit.remove
  split <;> simp_all

theorem AlarmUnit.find?_of_ne (hk : k ≠ .tableOverflow) : a.find? k subject = a.table.get? (alarmKey k subject) := by
  rw [find?_eq, if_neg hk]

theorem AlarmUnit.put_of_ne (hk : e.kind ≠ .tableOverflow) :
    a.put e = { a with table := a.table.set (alarmKey e.kind e.subject) e } := by
  rw [put_eq, if_neg hk]

theorem AlarmUnit.put_of_overflow (hk : e.kind = .tableOverflow) : a.put e = { a with overflow := some e } := by
  rw [put_eq, if_pos hk]

@[simp] theorem AlarmUnit.put_frame (a : AlarmUnit) (e : Entry) :
    (a.put e).levels = a.levels ∧ (a.put e).mask = a.mask := by
  rw [put_eq]
  split <;> simp

@[simp] theorem AlarmUnit.remove_frame (a : AlarmUnit) (k : AlarmKind) (subject : Nat) :
    (a.remove k subject).levels = a.levels ∧ (a.remove k subject).mask = a.mask := by
  rw [remove_eq]
  split <;> simp

@[simp] theorem AlarmUnit.find?_put_self (a : AlarmUnit) (e : Entry) : (a.put e).find? e.kind e.subject = some e := by
  rw [find?_eq, put_eq]
  split <;> simp

@[simp] theorem AlarmUnit.find?_remove_self (a : AlarmUnit) (k : AlarmKind) (subject : Nat) :
    (a.remove k subject).find? k subject = none := by
  rw [find?_eq, remove_eq]
  split <;> simp [Table.get?_erase]

/-- The entry written last in a place is the one that stands there. -/
theorem AlarmUnit.put_put (a : AlarmUnit) (hk : e.kind = x.kind) (hs : e.subject = x.subject) : (a.put x).put e = a.put e := by
  simp only [put_eq, hk, hs]
  split <;> simp

theorem AlarmUnit.remove_put (a : AlarmUnit) (e : Entry) :
    (a.put e).remove e.kind e.subject = a.remove e.kind e.subject := by
  rw [remove_eq, remove_eq, put_eq]
  split <;> simp

end Places

/-! ## The end of a condition (R164) -/

section Ends

variable {a b : AlarmUnit} {k : AlarmKind} {subject : Nat} {e : Entry}

theorem AlarmUnit.endCondition_of_find?_none (h : a.find? k subject = none) : a.endCondition k subject = a := by
  simp [endCondition, h]

theorem AlarmUnit.endCondition_of_unacked (h : a.find? k subject = some e) (he : e.state = .raised ∨ e.state = .reported) :
    a.endCondition k subject = a.put { e with state := .cleared } := by
  rcases he with he | he <;> simp [endCondition, h, he]

theorem AlarmUnit.endCondition_of_acked (h : a.find? k subject = some e) (he : e.state = .acked) :
    a.endCondition k subject = a.remove k subject := by
  simp [endCondition, h, he]

theorem AlarmUnit.endCondition_of_cleared (h : a.find? k subject = some e) (he : e.state = .cleared) :
    a.endCondition k subject = a := by
  simp [endCondition, h, he]

/-- R168: at level 0 a kind has no entry. -/
theorem AlarmUnit.find?_setLevel_zero (hwf : a.table.wf = true)
    (hkind : ∀ e, a.table.get? (alarmKey k subject) = some e → e.kind = k) : (a.setLevel k 0).find? k subject = none := by
  rw [find?_eq]
  split
  next hk => subst hk; rfl
  next => exact Table.get?_filter_eq_none hwf fun e he => by simp [hkind e he]

theorem AlarmUnit.firstOf_congr (h : a.levels = b.levels) (es : List Entry) : a.firstOf es = b.firstOf es := by
  have hbefore : a.before = b.before := by
    funext x y
    simp [before, level, h]
  induction es with
  | nil => rfl
  | cons e es ih => simp [firstOf, ih, hbefore]

/-- R165: the levels, the mask and the presentable entries settle which one is first. -/
theorem AlarmUnit.firstPresentable_congr (hl : a.levels = b.levels) (hm : a.mask = b.mask)
    (he : a.entries.filter a.presentable = b.entries.filter a.presentable) : a.firstPresentable = b.firstPresentable := by
  have hp : a.presentable = b.presentable := by
    funext e
    simp [presentable, level, hl, hm]
  rw [firstPresentable, firstPresentable, he, hp, firstOf_congr hl]

/-- R165: an entry that is not RAISED is passed over as one that is not there. -/
theorem AlarmUnit.firstPresentable_put_of_not_raised (hwf : a.table.wf = true) (he : e.state ≠ .raised) :
    (a.put e).firstPresentable = (a.remove e.kind e.subject).firstPresentable := by
  have hhidden : (a.put e).presentable e = false := by simp [presentable, he]
  refine firstPresentable_congr (by simp) (by simp) ?_
  generalize (a.put e).presentable = shown at hhidden ⊢
  rw [put_eq, remove_eq]
  split
  · simp [entries, hhidden]
  · simp [entries, List.filter_append, Table.filter_set_eq_filter_erase hwf hhidden]

theorem AlarmUnit.fetched_of_condition (he : e.type = .condition) : a.fetched e = a.put { e with state := .reported } := by
  simp [fetched, he]

theorem AlarmUnit.acknowledge_of_unacked (ht : e.type = .condition) (he : e.state = .raised ∨ e.state = .reported) :
    a.acknowledge e = a.put { e with state := .acked } := by
  rcases he with he | he <;> simp [acknowledge, Entry.acknowledged, ht, he]

theorem AlarmUnit.acknowledge_of_cleared (ht : e.type = .condition) (he : e.state = .cleared) :
    a.acknowledge e = a.remove e.kind e.subject := by
  simp [acknowledge, Entry.acknowledged, ht, he]

/-- A fetch first makes the entry REPORTED, and the end then CLEARED. -/
theorem AlarmUnit.endCondition_fetched (ht : e.type = .condition) :
    (a.fetched e).endCondition e.kind e.subject = a.put { e with state := .cleared } := by
  rw [fetched_of_condition ht, endCondition_of_unacked (find?_put_self a { e with state := .reported }) (.inr rfl), put_put] <;> rfl

/-- An acknowledge first makes the entry ACKED, and the end then removes it. -/
theorem AlarmUnit.endCondition_acknowledge (ht : e.type = .condition) (he : e.state = .raised ∨ e.state = .reported) :
    (a.acknowledge e).endCondition e.kind e.subject = a.remove e.kind e.subject := by
  rw [acknowledge_of_unacked ht he, endCondition_of_acked (find?_put_self a { e with state := .acked }) rfl]
  exact remove_put a { e with state := .acked }

/-- An end first makes the entry CLEARED, and the acknowledge then removes it. -/
theorem AlarmUnit.acknowledge_endCondition (h : a.find? e.kind e.subject = some e) (ht : e.type = .condition)
    (he : e.state = .raised ∨ e.state = .reported) :
    (a.endCondition e.kind e.subject).acknowledge { e with state := .cleared } = a.remove e.kind e.subject := by
  rw [endCondition_of_unacked h he, acknowledge_of_cleared (e := { e with state := .cleared }) ht rfl]
  exact remove_put a { e with state := .cleared }

end Ends

/-! ## The sequence counter (R162) -/

section Renumbering

variable {a : AlarmUnit} {k : AlarmKind} {subject : Nat} {type : AlarmType} {now : Stamp} {e : Entry}

theorem AlarmUnit.bump_of_lt (h : a.seq < 4294967295) : a.bump = { a with seq := a.seq + 1 } := by
  simp [bump, makeRoom, h]

theorem AlarmUnit.makeRoom_of_not_lt (h : ¬ a.seq < 4294967295) : a.makeRoom = renumbered a := by
  rw [makeRoom, if_neg h]
  rfl

@[simp] theorem table_length_renumbered (a : AlarmUnit) : (renumbered a).table.length = a.table.length := by
  simp [renumbered]

@[simp] theorem level_renumbered (a : AlarmUnit) (k : AlarmKind) : (renumbered a).level k = a.level k := rfl

/-- Renumbering changes no entry but in its sequence number. -/
theorem find?_renumbered (a : AlarmUnit) (k : AlarmKind) (subject : Nat) :
    (renumbered a).find? k subject = (a.find? k subject).map fun e => { e with seq := a.seqPlace e.seq } := by
  rw [AlarmUnit.find?_eq, AlarmUnit.find?_eq]
  split
  · rfl
  · exact Table.get?_mapAll a.table (alarmKey k subject) fun _ e => { e with seq := a.seqPlace e.seq }

/-- A table within its capacity is renumbered far below the top of the counter. -/
theorem seq_renumbered_lt (h : a.table.length ≤ 128) : (renumbered a).seq < 4294967295 := by
  have hplace : a.overflow.toList.length ≤ 1 := by cases a.overflow <;> simp
  simp only [renumbered, List.length_append, List.length_map]
  omega

theorem bump_renumbered (htop : a.seq = 4294967295) (h : a.table.length ≤ 128) : (renumbered a).bump = a.bump := by
  rw [AlarmUnit.bump_of_lt (seq_renumbered_lt h), AlarmUnit.bump, AlarmUnit.makeRoom_of_not_lt (by omega)]

theorem make_renumbered (htop : a.seq = 4294967295) (h : a.table.length ≤ 128) :
    (renumbered a).make k subject type now = a.make k subject type now := by
  rw [AlarmUnit.make, AlarmUnit.make, bump_renumbered htop h]

end Renumbering

/-! ## The raise (R162, R163) -/

section Raises

variable {a : AlarmUnit} {k : AlarmKind} {subject : Nat} {type : AlarmType} {now : Stamp} {e : Entry}

theorem AlarmUnit.make_of_lt (h : a.seq < 4294967295) : a.make k subject type now =
    { a with seq := a.seq + 1 }.put ⟨k, subject, type, .raised, 1, a.seq + 1, now, now⟩ := by
  rw [make, bump_of_lt h]

theorem AlarmUnit.again_of_raised (h : a.find? k subject = some e) (he : e.state = .raised) :
    a.again k subject now = a.put { e with repeats := min (e.repeats + 1) 255, last := now } := by
  simp [again, h, he]

theorem AlarmUnit.again_of_reported_or_acked (h : a.find? k subject = some e) (he : e.state = .reported ∨ e.state = .acked) :
    a.again k subject now = a := by
  rcases he with he | he <;> simp [again, h, he]

theorem AlarmUnit.again_of_cleared (h : a.find? k subject = some e) (he : e.state = .cleared) : a.again k subject now =
    a.bump.put { e with state := .raised, repeats := min (e.repeats + 1) 255, seq := a.bump.seq, last := now } := by
  simp [again, h, he]

theorem AlarmUnit.raise_of_level_zero (h : a.level k = 0) : a.raise k subject type now = a := by
  simp [raise, h]

theorem AlarmUnit.raise_of_find?_some (hl : a.level k ≠ 0) (h : a.find? k subject = some e) :
    a.raise k subject type now = a.again k subject now := by
  simp [raise, hl, h]

theorem AlarmUnit.raise_of_room (hl : a.level k ≠ 0) (h : a.find? k subject = none) (hroom : a.table.length < 128) :
    a.raise k subject type now = a.make k subject type now := by
  simp [raise, hl, h, hroom]

theorem AlarmUnit.raise_of_full (hl : a.level k ≠ 0) (h : a.find? k subject = none) (hfull : 128 ≤ a.table.length) :
    a.raise k subject type now = a.countOverflow now := by
  simp [raise, hl, h, hfull]

theorem AlarmUnit.countOverflow_of_level_zero (h : a.level .tableOverflow = 0) : a.countOverflow now = a := by
  simp [countOverflow, h]

theorem AlarmUnit.countOverflow_of_none (hl : a.level .tableOverflow ≠ 0) (h : a.overflow = none) :
    a.countOverflow now = a.make .tableOverflow 0 .occurrence now := by
  simp [countOverflow, hl, h]

theorem AlarmUnit.countOverflow_of_some (hl : a.level .tableOverflow ≠ 0) (h : a.overflow = some e) :
    a.countOverflow now = a.again .tableOverflow 0 now := by
  simp [countOverflow, hl, h]

/-- A raise that takes a new number: a new entry, the first one refused for room, or the raise of a CLEARED entry. -/
def AlarmUnit.takesNumber (a : AlarmUnit) (k : AlarmKind) (subject : Nat) : Prop :=
  (a.find? k subject = none ∧ (a.table.length < 128 ∨ (a.level .tableOverflow ≠ 0 ∧ a.overflow = none))) ∨
    ∃ e, a.find? k subject = some e ∧ e.state = .cleared

/-- At the top of the counter, a raise that takes a new number is made in the renumbered table. -/
theorem raise_renumbered (htop : a.seq = 4294967295) (hlen : a.table.length ≤ 128) (hl : a.level k ≠ 0)
    (h : a.takesNumber k subject) : (renumbered a).raise k subject type now = a.raise k subject type now := by
  have hfind := find?_renumbered a k subject
  have hl' : (renumbered a).level k ≠ 0 := by simpa using hl
  obtain ⟨hnone, hplace⟩ | ⟨e, he, hcleared⟩ := h
  · rw [hnone] at hfind
    by_cases hroom : a.table.length < 128
    · rw [AlarmUnit.raise_of_room hl hnone hroom, AlarmUnit.raise_of_room hl' hfind (by simpa using hroom), make_renumbered htop hlen]
    · obtain ⟨hlo, hfree⟩ := hplace.resolve_left hroom
      have hfull : 128 ≤ a.table.length := not_lt.mp hroom
      rw [AlarmUnit.raise_of_full hl hnone hfull, AlarmUnit.raise_of_full hl' hfind (by simpa using hfull),
        AlarmUnit.countOverflow_of_none hlo hfree, AlarmUnit.countOverflow_of_none (a := renumbered a) (by simpa using hlo) (by simp [renumbered, hfree]),
        make_renumbered htop hlen]
  · rw [he] at hfind
    rw [AlarmUnit.raise_of_find?_some hl he, AlarmUnit.raise_of_find?_some hl' hfind, AlarmUnit.again_of_cleared he hcleared,
      AlarmUnit.again_of_cleared hfind hcleared, bump_renumbered htop hlen]

end Raises

/-- Settles O58. A raise and an end reduce to `put` and `remove` by the state of the entry found; both orders of an end with a fetch leave the
same `put`, and both orders with an acknowledge the same `remove`. -/
theorem alarmRaiseAndEnd : Obligations.AlarmRaiseAndEnd := by
  refine ⟨fun a k subject type now hk => ?_, fun s k subject => ⟨rfl, rfl, rfl⟩, fun a k subject => ⟨?_, ?_, ?_⟩⟩
  · rw [← AlarmUnit.find?_of_ne hk]
    refine ⟨AlarmUnit.raise_of_level_zero, fun hl hseq hnone hroom => ?_, fun hl hnone hfull => ⟨fun hlo => ?_, fun hlo hseq hfree => ?_,
      fun hlo o ho hok hraised => ?_⟩, ?_, fun htop hlen hl h => (raise_renumbered htop hlen hl ?_).symm⟩
    · rw [AlarmUnit.raise_of_room hl hnone hroom, AlarmUnit.make_of_lt hseq, AlarmUnit.put_of_ne hk]
    · rw [AlarmUnit.raise_of_full hl hnone hfull, AlarmUnit.countOverflow_of_level_zero hlo]
    · rw [AlarmUnit.raise_of_full hl hnone hfull, AlarmUnit.countOverflow_of_none hlo hfree, AlarmUnit.make_of_lt hseq,
        AlarmUnit.put_of_overflow rfl]
    · have hfind : a.find? .tableOverflow 0 = some o := ho
      rw [AlarmUnit.raise_of_full hl hnone hfull, AlarmUnit.countOverflow_of_some hlo ho, AlarmUnit.again_of_raised hfind hraised]
      exact AlarmUnit.put_of_overflow hok
    · rintro e hl he rfl rfl
      rw [AlarmUnit.raise_of_find?_some hl he]
      refine ⟨fun hraised => ?_, AlarmUnit.again_of_reported_or_acked he, fun hcleared hseq => ?_⟩
      · rw [AlarmUnit.again_of_raised he hraised]
        exact AlarmUnit.put_of_ne hk
      · rw [AlarmUnit.again_of_cleared he hcleared, AlarmUnit.bump_of_lt hseq]
        exact AlarmUnit.put_of_ne hk
    · exact h.imp id fun ⟨e, he, _, _, hcleared⟩ => ⟨e, he, hcleared⟩
  · exact AlarmUnit.endCondition_of_find?_none
  · intro hwf hkind
    have hnone := AlarmUnit.find?_setLevel_zero hwf hkind
    exact ⟨hnone, AlarmUnit.endCondition_of_find?_none hnone⟩
  · rintro e he rfl rfl put hput
    have hput (x : EntryState) : put x = a.put { e with state := x } := by rw [hput, AlarmUnit.put_eq]
    simp only [hput, ← AlarmUnit.remove_eq]
    refine ⟨AlarmUnit.endCondition_of_unacked he, AlarmUnit.endCondition_of_acked he, AlarmUnit.endCondition_of_cleared he,
      fun ht hraised hwf => ⟨rfl, ?_, AlarmUnit.fetched_of_condition ht, AlarmUnit.endCondition_fetched ht⟩, fun ht hopen _ => ?_⟩
    · rw [AlarmUnit.endCondition_of_unacked he (.inl hraised)]
      exact AlarmUnit.firstPresentable_put_of_not_raised hwf (by simp)
    · rw [AlarmUnit.endCondition_acknowledge ht hopen, AlarmUnit.acknowledge_endCondition he ht hopen]
      exact ⟨rfl, AlarmUnit.find?_remove_self ..⟩

end Sys2Proof.Machine
end

section
/-! PROOFS. The form of the tables, said once for every invariant that speaks of it. `State.SameForm s t` says that `t` has the tables of `s` but
for fields that no invariant of the form, of the bindings, of the tree or of the account index reads, and that a step from `s` to `t` keeps
each tap in one place. Every shared operation is proved to have it, most of them as a composition of smaller ones. -/

namespace Sys2Proof.Machine

/-! ## Tables alike -/

section Alike

variable {α β : Type} {f : α → β} {t u v : Table α}

/-- The tables list the same numbers, and `f` sees the same in the records at each number. -/
def Table.Alike (f : α → β) (t u : Table α) : Prop :=
  u.map Prod.fst = t.map Prod.fst ∧ ∀ k, (Table.get? k u).map f = (Table.get? k t).map f

theorem Table.Alike.refl (f : α → β) (t : Table α) : Table.Alike f t t := ⟨rfl, fun _ => rfl⟩

theorem Table.Alike.trans (h : Table.Alike f t u) (h' : Table.Alike f u v) : Table.Alike f t v :=
  ⟨h'.1.trans h.1, fun k => (h'.2 k).trans (h.2 k)⟩

theorem Table.Alike.of_eq (h : u = t) : Table.Alike f t u := h ▸ .refl f t

theorem Table.Alike.comp {γ : Type} (h : Table.Alike f t u) (g : β → γ) : Table.Alike (g ∘ f) t u :=
  ⟨h.1, fun k => by rw [← Option.map_map, ← Option.map_map, h.2 k]⟩

theorem Table.Alike.wf (h : Table.Alike f t u) (hwf : t.wf = true) : u.wf = true := by
  rw [Table.wf_congr h.1]
  exact hwf

/-- What stands at a number in the changed table, and what stood there. -/
theorem Table.Alike.exists_of_get? (h : Table.Alike f t u) {k : Nat} {x : α} (hx : Table.get? k u = some x) :
    ∃ y, Table.get? k t = some y ∧ f y = f x := by
  have hk := h.2 k
  rw [hx] at hk
  exact Option.map_eq_some_iff.mp hk.symm

/-- The record that a number held has one to follow it. -/
theorem Table.Alike.exists_get? (h : Table.Alike f t u) {k : Nat} {x : α} (hx : Table.get? k t = some x) :
    ∃ y, Table.get? k u = some y ∧ f y = f x := by
  have hk := h.2 k
  rw [hx] at hk
  exact Option.map_eq_some_iff.mp hk

theorem Table.Alike.modify {k : Nat} {g : α → α} (h : ∀ x, Table.get? k t = some x → f (g x) = f x) :
    Table.Alike f t (Table.modify k g t) := by
  refine ⟨Table.modify_keys t k g, fun j => ?_⟩
  rw [Table.get?_modify]
  split
  next hkj =>
    subst hkj
    cases hx : Table.get? k t with
    | none => rfl
    | some x => simp [h x hx]
  next => rfl

theorem Table.Alike.mapAll {g : Nat → α → α} (h : ∀ i x, f (g i x) = f x) : Table.Alike f t (Table.mapAll g t) := by
  refine ⟨Table.mapAll_keys t g, fun j => ?_⟩
  cases hx : Table.get? j t <;> simp [hx, h]

end Alike

/-! ## The alarm table -/

/-- The numbers of the alarm table stay in order, and the levels stay fifteen. -/
def AlarmUnit.Alike (a b : AlarmUnit) : Prop :=
  (a.table.wf = true → b.table.wf = true) ∧ b.levels.length = a.levels.length

section Alarms

variable {a b c : AlarmUnit}

theorem AlarmUnit.Alike.refl (a : AlarmUnit) : a.Alike a := ⟨id, rfl⟩

theorem AlarmUnit.Alike.trans (h : a.Alike b) (h' : b.Alike c) : a.Alike c := ⟨h'.1 ∘ h.1, h'.2.trans h.2⟩

theorem AlarmUnit.put_alike (a : AlarmUnit) (e : Entry) : a.Alike (a.put e) := by
  rw [put_eq]
  split
  · exact .refl a
  · exact ⟨fun h => Table.wf_set h _ _, rfl⟩

theorem AlarmUnit.remove_alike (a : AlarmUnit) (k : AlarmKind) (subject : Nat) : a.Alike (a.remove k subject) := by
  rw [remove_eq]
  split
  · exact .refl a
  · exact ⟨fun h => Table.wf_erase h _, rfl⟩

theorem AlarmUnit.makeRoom_alike (a : AlarmUnit) : a.Alike a.makeRoom := by
  unfold makeRoom
  split
  · exact .refl a
  · exact ⟨fun h => by dsimp only; exact Table.wf_mapAll h _, rfl⟩

theorem AlarmUnit.bump_alike (a : AlarmUnit) : a.Alike a.bump := a.makeRoom_alike

theorem AlarmUnit.make_alike (a : AlarmUnit) (k : AlarmKind) (subject : Nat) (type : AlarmType) (now : Stamp) :
    a.Alike (a.make k subject type now) := a.bump_alike.trans (put_alike _ _)

theorem AlarmUnit.again_alike (a : AlarmUnit) (k : AlarmKind) (subject : Nat) (now : Stamp) : a.Alike (a.again k subject now) := by
  unfold again
  split
  · exact .refl a
  · split
    · exact put_alike a _
    · exact a.bump_alike.trans (put_alike _ _)
    · exact .refl a
    · exact .refl a

theorem AlarmUnit.countOverflow_alike (a : AlarmUnit) (now : Stamp) : a.Alike (a.countOverflow now) := by
  unfold countOverflow
  split
  · exact .refl a
  · split
    · exact make_alike ..
    · exact again_alike ..

theorem AlarmUnit.raise_alike (a : AlarmUnit) (k : AlarmKind) (subject : Nat) (type : AlarmType) (now : Stamp) :
    a.Alike (a.raise k subject type now) := by
  unfold raise
  split
  · exact .refl a
  · split
    · exact again_alike ..
    · split
      · exact make_alike ..
      · exact countOverflow_alike ..

theorem AlarmUnit.endCondition_alike (a : AlarmUnit) (k : AlarmKind) (subject : Nat) : a.Alike (a.endCondition k subject) := by
  unfold endCondition
  split
  · exact .refl a
  · split
    · exact put_alike ..
    · exact put_alike ..
    · exact remove_alike ..
    · exact .refl a

end Alarms

/-! ## What the invariants read -/

/-- What the account index and the bindings read of a subscriber record. -/
def Subscriber.bound (r : Subscriber) : Nat × Option PortRef := (r.account, r.tapPort)

/-- What the bindings read of a tap. -/
def Tap.bindings (t : Tap) : List (Option Nat) := t.ports.map TapPort.subscriber

/-- What the tree reads of an element. -/
def Element.place (x : Element) : Option Nat × Nat × Nat := (x.parent, x.leg, x.depth)

/-- What R35 and R159 read of an input. -/
def Input.watch (x : Input) : Role × Sense := (x.role, x.sense)

/-- `t` has the form of `s`, and its taps in one place each if `s` has. -/
structure State.SameForm (s t : State) : Prop where
  subs : Table.Alike Subscriber.bound s.subs t.subs
  accounts : t.accounts = s.accounts
  taps : Table.Alike Tap.bindings s.taps t.taps
  elements : Table.Alike Element.place s.elements t.elements
  inputs : t.inputs.map Input.watch = s.inputs.map Input.watch
  events : t.events.map Prod.fst = s.events.map Prod.fst
  alarms : s.alarms.Alike t.alarms
  slots : t.slots.length = s.slots.length
  tiers : t.tiers.length = s.tiers.length
  legs : t.legs.length = s.legs.length
  placed : s.Placed → t.Placed

namespace State.SameForm

variable {s t u : State}

theorem trans (h : s.SameForm t) (h' : t.SameForm u) : s.SameForm u where
  subs := h.subs.trans h'.subs
  accounts := h'.accounts.trans h.accounts
  taps := h.taps.trans h'.taps
  elements := h.elements.trans h'.elements
  inputs := h'.inputs.trans h.inputs
  events := h'.events.trans h.events
  alarms := h.alarms.trans h'.alarms
  slots := h'.slots.trans h.slots
  tiers := h'.tiers.trans h.tiers
  legs := h'.legs.trans h.legs
  placed hs := h'.placed (h.placed hs)

/-- `trans` from the last step back: the state that the last step gives is known from the goal. -/
theorem after (h' : t.SameForm u) (h : s.SameForm t) : s.SameForm u := h.trans h'

end State.SameForm

/-- R48, R49: where the taps stand is read from the taps, the queues and the legs. -/
theorem State.Placed.congr {s t : State} (h : s.Placed) (ht : t.taps = s.taps) (hu : t.urgent = s.urgent) (hb : t.bulk = s.bulk)
    (hl : t.legs = s.legs) : t.Placed := by
  obtain ⟨taps, urgent, bulk, apart, queued, flying, single⟩ := h
  constructor <;> simpa only [ht, hu, hb, hl]

/-- A change of fields that the invariants do not read, or read in part. -/
theorem State.SameForm.restWith {s : State} {port : Port} {mode : DeviceMode} {slots : List Slot} {tiers : List Tier} {events : Table EventRec}
    {dark : Nat} {sweep : Option Sweep} {scopes : Option Scope} {link : LinkParams} {topo : TopoParams} {clock : TimeBase}
    {announced : Announced} {billing : Billing} {alarms : AlarmUnit} {free : Nat} {pending : List Instr}
    (hevents : events.map Prod.fst = s.events.map Prod.fst) (halarms : s.alarms.Alike alarms) (hslots : slots.length = s.slots.length)
    (htiers : tiers.length = s.tiers.length) : s.SameForm { s with
      port := port, mode := mode, slots := slots, tiers := tiers, events := events, darkThreshold := dark, sweep := sweep, scopes := scopes
      link := link, topo := topo, clock := clock, announced := announced, billing := billing, alarms := alarms, free := free
      pending := pending } where
  subs := .refl _ _
  accounts := rfl
  taps := .refl _ _
  elements := .refl _ _
  inputs := rfl
  events := hevents
  alarms := halarms
  slots := hslots
  tiers := htiers
  legs := rfl
  placed h := h.congr rfl rfl rfl rfl

/-- A change of fields that the invariants do not read. -/
theorem State.SameForm.rest {s : State} {port : Port} {mode : DeviceMode} {dark : Nat} {sweep : Option Sweep} {scopes : Option Scope}
    {link : LinkParams} {topo : TopoParams} {clock : TimeBase} {announced : Announced} {billing : Billing} {free : Nat} {pending : List Instr} :
    s.SameForm { s with
      port := port, mode := mode, darkThreshold := dark, sweep := sweep, scopes := scopes, link := link, topo := topo, clock := clock
      announced := announced, billing := billing, free := free, pending := pending } :=
  .restWith rfl (.refl _) rfl rfl

theorem State.SameForm.refl (s : State) : s.SameForm s := .rest

/-- What every step of a fold has, the fold has. -/
theorem foldl_sameForm {α : Type} {f : State → α → State} (h : ∀ s x, State.SameForm s (f s x)) (l : List α) (s : State) :
    s.SameForm (l.foldl f s) := by
  induction l generalizing s with
  | nil => exact .refl s
  | cons x l ih => exact (h s x).trans (ih _)

/-! ## Changes of one record -/

section Records

variable {s : State} {i : Nat}

theorem updSub_sameForm {f : Subscriber → Subscriber} (h : ∀ r, s.subs.get? i = some r → (f r).bound = r.bound) :
    s.SameForm (s.updSub i f) where
  __ := State.SameForm.refl s
  subs := .modify h
  placed hs := hs.congr rfl rfl rfl rfl

theorem updElement_sameForm {f : Element → Element} (h : ∀ x, (f x).place = x.place) : s.SameForm (s.updElement i f) where
  __ := State.SameForm.refl s
  elements := .modify fun x _ => h x
  placed hs := hs.congr rfl rfl rfl rfl

theorem updInput_sameForm {f : Input → Input} (h : ∀ x, (f x).watch = x.watch) : s.SameForm (s.updInput i f) where
  __ := State.SameForm.refl s
  inputs := by
    refine List.ext_getElem? fun j => ?_
    simp only [State.updInput, List.getElem?_map, List.getElem?_modify]
    cases s.inputs[j]? <;> simp; split <;> simp [h]
  placed hs := hs.congr rfl rfl rfl rfl

theorem updEvent_sameForm (f : EventRec → EventRec) : s.SameForm (s.updEvent i f) := .restWith (by simp) (.refl _) rfl rfl

theorem updSlot_sameForm (f : Slot → Slot) : s.SameForm (s.updSlot i f) := .restWith rfl (.refl _) (by simp) rfl

theorem updTier_sameForm (f : Tier → Tier) : s.SameForm (s.updTier i f) := .restWith rfl (.refl _) rfl (by simp)

end Records

/-! ## Where the taps stand -/

section Places

variable {s t : State} {tap i : Nat} {q : QueueKind}

/-- R48, R49: a change of the taps that keeps each one's origin queue, and starts no countdown, moves none. -/
theorem State.Placed.of_taps (h : s.Placed) (hwf : t.taps.wf = true)
    (ht : ∀ i x, s.taps.get? i = some x → ∃ y, t.taps.get? i = some y ∧ y.origin = x.origin ∧ (x.countdown = none → y.countdown = none))
    (hu : t.urgent = s.urgent) (hb : t.bulk = s.bulk) (hl : t.legs = s.legs) : t.Placed where
  taps := hwf
  urgent := hu ▸ h.urgent
  bulk := hb ▸ h.bulk
  apart := by simpa only [hu, hb] using h.apart
  queued i hi := by
    rw [hu, hb] at hi
    obtain ⟨x, hx, ho, hc⟩ := h.queued i hi
    obtain ⟨y, hy, hyo, hyc⟩ := ht i x hx
    exact ⟨y, hy, hyo.trans ho, hyc hc⟩
  flying n l i q hn hf := by
    obtain ⟨x, hx, ho, hc⟩ := h.flying n l i q (hl ▸ hn) hf
    obtain ⟨y, hy, hyo, hyc⟩ := ht i x hx
    exact ⟨y, hy, hyo.trans ho, hyc hc⟩
  single m n k l i p q hm hn := h.single m n k l i p q (hl ▸ hm) (hl ▸ hn)

theorem updTap_sameForm {f : Tap → Tap} (hb : ∀ t, (f t).bindings = t.bindings) (ho : ∀ t, (f t).origin = t.origin)
    (hc : ∀ t, t.countdown = none → (f t).countdown = none) : s.SameForm (s.updTap i f) where
  __ := State.SameForm.refl s
  taps := .modify fun x _ => hb x
  placed hs := by
    refine hs.of_taps (Table.wf_modify hs.taps _ _) (fun j x hx => ?_) rfl rfl rfl
    simp only [State.updTap, Table.get?_modify, hx]
    split
    · exact ⟨f x, rfl, ho x, hc x⟩
    · exact ⟨x, rfl, rfl, id⟩

/-- Every tap may be changed so. -/
theorem mapTaps_sameForm {f : Nat → Tap → Tap} (hb : ∀ i t, (f i t).bindings = t.bindings) (ho : ∀ i t, (f i t).origin = t.origin)
    (hc : ∀ i t, t.countdown = none → (f i t).countdown = none) : s.SameForm { s with taps := s.taps.mapAll f } where
  __ := State.SameForm.refl s
  taps := .mapAll hb
  placed hs := by
    refine hs.of_taps (Table.wf_mapAll hs.taps _) (fun j x hx => ?_) rfl rfl rfl
    simp only [Table.get?_mapAll, hx]
    exact ⟨f j x, rfl, ho j x, hc j x⟩

theorem State.membership_eq_none : s.membership tap = none ↔ tap ∉ s.urgent ∧ tap ∉ s.bulk := by
  unfold State.membership
  split
  · simp_all
  · split <;> simp_all

/-- A tap that stands nowhere may join a queue, at its tail or its head. -/
theorem State.Placed.join {t : State} (h : s.Placed) (hq : s.membership tap = none)
    (ht : ∃ x, s.taps.get? tap = some x ∧ x.origin = none ∧ x.countdown = none) (hj : t = s.joinTail q tap ∨ t = s.joinHead q tap) :
    t.Placed := by
  obtain ⟨hu, hb⟩ := State.membership_eq_none.mp hq
  have hurgent : t.urgent.Nodup := by
    have := h.urgent
    rcases hj with rfl | rfl <;> cases q <;> simp_all [State.joinTail, State.joinHead, List.nodup_append]
    rintro x hx rfl
    exact hu hx
  have hbulk : t.bulk.Nodup := by
    have := h.bulk
    rcases hj with rfl | rfl <;> cases q <;> simp_all [State.joinTail, State.joinHead, List.nodup_append]
    rintro x hx rfl
    exact hb hx
  have hmem : ∀ i, (i ∈ t.urgent → i = tap ∧ q = .urgent ∨ i ∈ s.urgent) ∧ (i ∈ t.bulk → i = tap ∧ q = .bulk ∨ i ∈ s.bulk) := by
    intro i
    rcases hj with rfl | rfl <;> cases q <;> simp [State.joinTail, State.joinHead] <;> tauto
  have htaps : t.taps = s.taps := by rcases hj with rfl | rfl <;> simp
  have hlegs : t.legs = s.legs := by rcases hj with rfl | rfl <;> simp
  refine ⟨htaps ▸ h.taps, hurgent, hbulk, fun i hi hi' => ?_, fun i hi => ?_, ?_, ?_⟩
  · have := h.apart i
    obtain ⟨rfl, h1⟩ | h1 := (hmem i).1 hi <;> obtain ⟨h2, h3⟩ | h2 := (hmem i).2 hi' <;> simp_all
  · rw [htaps]
    obtain h1 | h1 := hi.imp (hmem i).1 (hmem i).2 <;> obtain ⟨rfl, -⟩ | h2 := h1
    · exact ht
    · exact h.queued i (.inl h2)
    · exact ht
    · exact h.queued i (.inr h2)
  · rw [hlegs, htaps]
    exact h.flying
  · rw [hlegs]
    exact h.single

theorem leaveQueues_placed (h : s.Placed) : (s.leaveQueues tap).Placed where
  taps := h.taps
  urgent := h.urgent.filter _
  bulk := h.bulk.filter _
  apart i hi hi' := h.apart i (List.mem_of_mem_filter hi) (List.mem_of_mem_filter hi')
  queued i hi := h.queued i (hi.imp List.mem_of_mem_filter List.mem_of_mem_filter)
  flying := h.flying
  single := h.single

theorem membership_leaveQueues : (s.leaveQueues tap).membership tap = none := by
  simp [State.membership_eq_none, State.leaveQueues]

theorem dirty_sameForm : s.SameForm (s.updTap tap fun t => { t with dirty := true }) :=
  updTap_sameForm (fun _ => rfl) (fun _ => rfl) (fun _ h => h)

theorem need_placed (kind : QueueKind) (hs : s.Placed) : (s.need kind tap).Placed := by
  unfold State.need
  split
  · exact hs
  next x hx =>
    split
    · exact dirty_sameForm.placed hs
    next hf =>
      have ho : x.origin = none := by simpa [Tap.inFlight] using hf
      split
      · exact hs
      next hm =>
        split
        · have hq : tap ∈ s.bulk := by
            unfold State.membership at hm
            split at hm
            · cases hm
            · split at hm
              next hb => simpa using hb
              · cases hm
          exact (leaveQueues_placed hs).join membership_leaveQueues (hs.queued tap (.inr hq)) (.inl rfl)
        · exact hs
      next hm =>
        split
        · exact hs
        next hc => exact hs.join hm ⟨x, hx, ho, by simpa [Tap.counting] using hc⟩ (.inl rfl)

theorem need_sameForm (s : State) (kind : QueueKind) (tap : Nat) : s.SameForm (s.need kind tap) where
  __ := State.SameForm.refl s
  subs := .of_eq (by simp)
  accounts := by simp
  elements := .of_eq (by simp)
  inputs := by simp
  events := by simp
  alarms := by simpa using AlarmUnit.Alike.refl _
  slots := by simp
  tiers := by simp
  legs := by simp
  taps := by
    unfold State.need
    split
    · exact .refl _ _
    · split
      · exact dirty_sameForm.taps
      · (repeat' split) <;> simp [Table.Alike]
  placed := need_placed kind

end Places

end Sys2Proof.Machine
end

section
/-! PROOFS. The shared operations on alarms, needs, sweeps, money and elements keep the form (`State.SameForm`), most of them as compositions. -/

namespace Sys2Proof.Machine

variable {s : State}

/-! ## Alarms, needs and sweep requests -/

theorem raiseCondition_sameForm (s : State) (k : AlarmKind) (subject : Nat) : s.SameForm (s.raiseCondition k subject) :=
  .restWith rfl (AlarmUnit.raise_alike ..) rfl rfl

theorem raiseOccurrence_sameForm (s : State) (k : AlarmKind) (subject : Nat) : s.SameForm (s.raiseOccurrence k subject) :=
  .restWith rfl (AlarmUnit.raise_alike ..) rfl rfl

theorem endAlarm_sameForm (s : State) (k : AlarmKind) (subject : Nat) : s.SameForm (s.endAlarm k subject) :=
  .restWith rfl (AlarmUnit.endCondition_alike ..) rfl rfl

theorem followCondition_sameForm (s : State) (k : AlarmKind) (subject : Nat) (a b : Bool) :
    s.SameForm (s.followCondition k subject a b) := by
  unfold State.followCondition
  split
  · exact raiseCondition_sameForm ..
  · split
    · exact endAlarm_sameForm ..
    · exact .refl s

theorem endIf_sameForm (s : State) (b : Bool) (k : AlarmKind) (subject : Nat) : s.SameForm (s.endIf b k subject) := by
  unfold State.endIf
  split
  · exact endAlarm_sameForm ..
  · exact .refl s

theorem endDowns_sameForm (s : State) (es : List Nat) : s.SameForm (s.endDowns es) :=
  foldl_sameForm (fun s x => endAlarm_sameForm s .elementDown x) es s

theorem needFor_sameForm (s : State) (p : Option PortRef) : s.SameForm (s.needFor p) := by
  unfold State.needFor
  split
  · exact .refl s
  · exact need_sameForm ..

theorem moveNeeds_sameForm (s : State) (a b : Nat) : s.SameForm (s.moveNeeds a b) := by
  unfold State.moveNeeds
  split
  · exact need_sameForm ..
  · exact (need_sameForm ..).trans (need_sameForm ..)

theorem Tap.forgotten_bindings (t : Tap) : t.forgotten.bindings = t.bindings := by
  simp [forgotten, bindings]

theorem clearUnder_sameForm (s : State) (es : List Nat) : s.SameForm (s.clearUnder es) := by
  refine mapTaps_sameForm (fun _ t => ?_) (fun _ t => ?_) (fun _ t h => ?_) <;> split
  case refine_1.isTrue => exact t.forgotten_bindings
  case refine_3.isTrue | refine_3.isFalse => exact h
  all_goals rfl

theorem mergeScope_sameForm (s : State) (request : SweepRequest) : s.SameForm (s.mergeScope request) := by
  unfold State.mergeScope
  split
  · exact .rest
  · exact .rest
  · exact .refl s
  · exact clearUnder_sameForm ..
  · exact (clearUnder_sameForm ..).trans .rest
  · split
    · exact .refl s
    · split
      · exact .rest
      · exact (clearUnder_sameForm ..).trans .rest

theorem requestSweep_sameForm (s : State) (request : SweepRequest) : s.SameForm (s.requestSweep request) := by
  unfold State.requestSweep
  split
  · exact .rest
  · exact mergeScope_sameForm ..

/-! ## Changes of state and money -/

theorem requestChange_sameForm (s : State) (i : Nat) (r : Subscriber) (x : SubState) : s.SameForm (s.requestChange i r x) := by
  unfold State.requestChange
  split
  · exact .refl s
  · exact (needFor_sameForm ..).after (updSub_sameForm fun _ _ => rfl)

theorem automaticChange_sameForm (s : State) (i : Nat) (r : Subscriber) (x : SubState) : s.SameForm (s.automaticChange i r x) :=
  (raiseOccurrence_sameForm ..).after ((needFor_sameForm ..).after (updSub_sameForm fun _ _ => rfl))

@[simp] theorem Subscriber.refunded_bound (r : Subscriber) (price : Nat) : (r.refunded price).bound = r.bound := by
  unfold refunded; split <;> rfl

@[simp] theorem Subscriber.granted_bound (r : Subscriber) (e : Episode) : (r.granted e).bound = r.bound := by
  unfold granted; split <;> rfl

@[simp] theorem Subscriber.charged_bound (r : Subscriber) (rate : Nat) : (r.charged rate).bound = r.bound := by
  unfold charged; split <;> rfl

@[simp] theorem Subscriber.owing_bound (r : Subscriber) (net : Int) : (r.owing net).bound = r.bound := by
  unfold owing; split <;> rfl

@[simp] theorem Subscriber.carriedOver_bound (r : Subscriber) : r.carriedOver.bound = r.bound := by
  unfold carriedOver; split <;> rfl

@[simp] theorem Subscriber.settledRemainders_bound (r : Subscriber) : r.settledRemainders.bound = r.bound := by
  unfold settledRemainders; split <;> rfl

@[simp] theorem Subscriber.withStatement_bound (r : Subscriber) (f : Figures) : (r.withStatement f).bound = r.bound := rfl

@[simp] theorem Subscriber.roundedOff_bound (r : Subscriber) : r.roundedOff.bound = r.bound := rfl

@[simp] theorem Subscriber.finalised_bound (r : Subscriber) (period : Nat) : (r.finalised period).bound = r.bound := by
  simp [finalised]

@[simp] theorem Subscriber.adjusted_bound (r : Subscriber) (amount : Int) : (r.adjusted amount).1.bound = r.bound := by
  unfold adjusted; split <;> rfl

@[simp] theorem Subscriber.bought_bound (r : Subscriber) (id price : Nat) (restore : Bool) : (r.bought id price restore).bound = r.bound := by
  unfold bought; split <;> rfl

theorem refund_sameForm (s : State) (i price : Nat) (by_ : RefundBy) : s.SameForm (s.refund i price by_) := by
  unfold State.refund
  split
  · exact .refl s
  · split
    · exact .refl s
    · have hpaid : s.SameForm (s.updSub i fun r => r.refunded price) := updSub_sameForm fun r _ => r.refunded_bound price
      dsimp only
      split
      · split
        · exact hpaid.trans (automaticChange_sameForm ..)
        · exact hpaid.trans (requestChange_sameForm ..)
        · exact hpaid
      · exact hpaid

theorem grant_sameForm (s : State) (i : Nat) (e : Episode) (settling : Bool) : s.SameForm (s.grant i e settling) := by
  unfold State.grant
  split
  · exact .refl s
  · have hpaid : s.SameForm (s.updSub i fun r => r.granted e) := updSub_sameForm fun r _ => r.granted_bound e
    dsimp only
    split
    · exact hpaid.trans (automaticChange_sameForm ..)
    · exact hpaid

theorem endEpisode_sameForm (s : State) (i : Nat) (e : Episode) (settling : Bool) : s.SameForm (s.endEpisode i e settling) := by
  unfold State.endEpisode
  split
  · exact (grant_sameForm ..).trans (updSub_sameForm fun _ _ => rfl)
  · exact updSub_sameForm fun _ _ => rfl

theorem outageCheck_sameForm (s : State) (i rate : Nat) : s.SameForm (s.outageCheck i rate) := by
  unfold State.outageCheck
  split
  · exact .refl s
  · split
    · exact updSub_sameForm fun _ _ => rfl
    · split
      · exact .refl s
      · exact endEpisode_sameForm ..

theorem meterRecord_sameForm (s : State) (i : Nat) (r : Subscriber) : s.SameForm (s.meterRecord i r) := by
  unfold State.meterRecord
  split
  case h_5 =>
    have hcharged : s.SameForm (s.updSub i fun x => x.charged (s.rateSum r)) := updSub_sameForm fun x _ => x.charged_bound _
    dsimp only
    split
    · exact (hcharged.trans (automaticChange_sameForm ..)).trans (outageCheck_sameForm ..)
    · exact hcharged.trans (outageCheck_sameForm ..)
  case h_1 => exact .refl s
  all_goals
    split
    · exact .refl s
    · exact endEpisode_sameForm ..

theorem payOpenEpisode_sameForm (s : State) (i : Nat) (r : Subscriber) : s.SameForm (s.payOpenEpisode i r) := by
  unfold State.payOpenEpisode
  split
  · exact .refl s
  · split
    · exact (grant_sameForm ..).trans (updSub_sameForm fun _ _ => rfl)
    · exact .refl s

theorem closeFigures_sameForm (s : State) (i : Nat) : s.SameForm (s.closeFigures i) := by
  unfold State.closeFigures
  split
  · exact .refl s
  next r hr =>
    have howing : s.SameForm (s.updSub i fun _ => r.carriedOver.owing (r.netOf r.tierCents r.creditCents)) :=
      updSub_sameForm fun x hx => by simp_all
    dsimp only
    split
    · exact (howing.trans (automaticChange_sameForm ..)).trans (updSub_sameForm fun _ _ => rfl)
    · exact howing.trans (updSub_sameForm fun _ _ => rfl)

theorem closeRecord_sameForm (s : State) (i : Nat) : s.SameForm (s.closeRecord i) := by
  unfold State.closeRecord
  split
  · exact .refl s
  · split
    · exact (payOpenEpisode_sameForm ..).trans (closeFigures_sameForm ..)
    · exact .refl s

theorem visit_sameForm (s : State) (i : Nat) (closing : Bool) : s.SameForm (s.visit i closing) := by
  unfold State.visit
  split
  · exact .refl s
  · dsimp only
    split
    · exact (meterRecord_sameForm ..).trans (closeRecord_sameForm ..)
    · exact meterRecord_sameForm ..

theorem settlePurchase_sameForm (s : State) (i id : Nat) : s.SameForm (s.settlePurchase i id) := by
  unfold State.settlePurchase
  split
  · exact .refl s
  · split
    · exact (refund_sameForm ..).after (updEvent_sameForm _)
    · exact updEvent_sameForm _
    · split
      · split
        · exact refund_sameForm ..
        · exact .refl s
      · exact .refl s
    · exact .refl s

theorem closeSubscriber_sameForm (s : State) (i : Nat) (r : Subscriber) : s.SameForm (s.closeSubscriber i r) := by
  have hpurchases : s.SameForm (s.emptyPurchases i r) :=
    (foldl_sameForm (fun s id => settlePurchase_sameForm s i id) r.purchases s).trans (updSub_sameForm fun _ _ => rfl)
  have hepisode (u : State) : u.SameForm (u.settleEpisode i r) := by
    unfold State.settleEpisode
    split
    · exact .refl u
    · exact endEpisode_sameForm ..
  exact ((hpurchases.trans (hepisode _)).trans (requestChange_sameForm ..)).trans
    (updSub_sameForm fun x _ => x.finalised_bound _)

/-! ## Passes and the clock -/

theorem handBoundary_sameForm (s : State) (b : HeldBoundary) : s.SameForm (s.handBoundary b) := by
  unfold State.handBoundary
  split
  · exact .rest
  · split
    · exact .rest
    · exact (State.SameForm.rest).trans (raiseOccurrence_sameForm ..)

theorem endClose_sameForm (s : State) (m : Nat) : s.SameForm (s.endClose m) :=
  (State.SameForm.restWith rfl (.refl _) rfl (by simp)).trans (raiseOccurrence_sameForm ..)

theorem endPass_sameForm (s : State) (p : Pass) : s.SameForm (s.endPass p) := by
  have hclose : s.SameForm (match p.close with | none => s | some m => s.endClose m) := by
    split
    · exact .refl s
    · exact endClose_sameForm ..
  unfold State.endPass
  dsimp only
  split
  · exact hclose.trans .rest
  · exact hclose.trans .rest

theorem minuteBoundary_sameForm (s : State) : s.SameForm s.minuteBoundary := by
  unfold State.minuteBoundary
  dsimp only
  split
  · exact .rest
  · exact (State.SameForm.rest).trans (handBoundary_sameForm ..)

theorem secondEdge_sameForm (s : State) (byPulse : Bool) : s.SameForm (s.secondEdge byPulse) := by
  unfold State.secondEdge
  dsimp only
  split
  · exact (State.SameForm.rest).trans (minuteBoundary_sameForm _)
  · exact .rest

theorem pulseTaken_sameForm (s : State) : s.SameForm s.pulseTaken := by
  unfold State.pulseTaken
  dsimp only
  split
  · exact (State.SameForm.rest).trans (endAlarm_sameForm ..)
  · exact .rest

theorem setReference_sameForm (s : State) (select : Bool) : s.SameForm (s.setReference select) := by
  unfold State.setReference
  split
  · split
    · exact .rest
    · exact .refl s
  · dsimp only
    split
    · exact .refl s
    · split
      · exact (State.SameForm.rest).trans (endAlarm_sameForm ..)
      · exact .rest

/-! ## The line-up, events and inputs -/

theorem slotBoundary_sameForm (s : State) (n i : Nat) : s.SameForm (s.slotBoundary n i) := by
  unfold State.slotBoundary
  split
  · exact .refl s
  · split
    · exact .refl s
    · dsimp only
      split
      · exact (requestSweep_sameForm ..).after (updSlot_sameForm _)
      · exact updSlot_sameForm _

theorem refreshDark_sameForm (s : State) (slot : Nat) : s.SameForm (s.refreshDark slot) := by
  unfold State.refreshDark
  split
  · exact .refl s
  · exact (followCondition_sameForm ..).after (updSlot_sameForm _)

theorem eventBoundary_sameForm (s : State) (n id : Nat) : s.SameForm (s.eventBoundary n id) := by
  unfold State.eventBoundary
  split
  · exact .refl s
  next e _ =>
    dsimp only
    split
    · split
      · exact ((requestSweep_sameForm ..).after (updEvent_sameForm _)).trans (requestSweep_sameForm ..)
      · exact (requestSweep_sameForm ..).after (updEvent_sameForm _)
    · split
      · exact (requestSweep_sameForm ..).after (updEvent_sameForm _)
      · exact updEvent_sameForm _

theorem walkVisit_sameForm (s : State) (id price i : Nat) (refundDue : Bool) : s.SameForm (s.walkVisit id price i refundDue) := by
  unfold State.walkVisit
  split
  · exact .refl s
  · split
    · dsimp only
      split
      · exact (refund_sameForm ..).after (updSub_sameForm fun _ _ => rfl)
      · exact updSub_sameForm fun _ _ => rfl
    · exact .refl s

theorem refundAll_sameForm (s : State) (id price : Nat) : s.SameForm (s.refundAll id price) :=
  (foldl_sameForm (fun s i => walkVisit_sameForm s id price i true) _ s).trans .rest

theorem contactChanged_sameForm (s : State) (input : Nat) (x : Input) (level : Level) : s.SameForm (s.contactChanged input x level) := by
  unfold State.contactChanged
  split
  · exact .refl s
  · exact refreshDark_sameForm ..
  · split
    · split
      · exact raiseOccurrence_sameForm ..
      · exact .refl s
    · split
      · exact raiseOccurrence_sameForm ..
      · exact .refl s
    · exact raiseOccurrence_sameForm ..
    all_goals
      split
      · exact (raiseCondition_sameForm ..).after (updInput_sameForm fun _ => rfl)
      · exact (endAlarm_sameForm ..).after (updInput_sameForm fun _ => rfl)

theorem takeLevel_sameForm (s : State) (input : Nat) (x : Input) : s.SameForm (s.takeLevel input x) :=
  (contactChanged_sameForm ..).after (updInput_sameForm fun _ => rfl)

/-! ## Elements -/

theorem mapElements_sameForm {f : Nat → Element → Element} (h : ∀ i x, (f i x).place = x.place) :
    s.SameForm { s with elements := s.elements.mapAll f } where
  __ := State.SameForm.refl s
  elements := .mapAll h
  placed hs := hs.congr rfl rfl rfl rfl

theorem verifyChildren_sameForm (s : State) (e : Nat) : s.SameForm (s.verifyChildren e) :=
  mapElements_sameForm fun _ x => by split <;> rfl

theorem goDown_sameForm (s : State) (e : Nat) : s.SameForm (s.goDown e) := by
  unfold State.goDown
  split
  · exact .refl s
  · exact (endDowns_sameForm ..).after ((mapElements_sameForm fun i y => by split <;> rfl).after
      ((raiseCondition_sameForm ..).after (updElement_sameForm fun _ => rfl)))

theorem applyMiss_sameForm (s : State) (e : Nat) : s.SameForm (s.applyMiss e) := by
  unfold State.applyMiss
  split
  · exact .refl s
  · split
    · exact .refl s
    · exact updElement_sameForm fun _ => rfl
    all_goals
      dsimp only
      split
      · exact (goDown_sameForm ..).after (updElement_sameForm fun _ => rfl)
      · exact updElement_sameForm fun _ => rfl

theorem updateConditions_sameForm (s : State) (e : Nat) (supply : Option Supply) (level : Int) :
    s.SameForm (s.updateConditions e supply level) := by
  unfold State.updateConditions
  split
  · exact .refl s
  · exact (followCondition_sameForm ..).after ((followCondition_sameForm ..).after ((followCondition_sameForm ..).after
      (updElement_sameForm fun _ => rfl)))

theorem applyReply_sameForm (s : State) (e : Nat) (supply : Option Supply) (level : Int) :
    s.SameForm (s.applyReply e supply level) := by
  unfold State.applyReply
  split
  · exact .refl s
  · split
    · exact .refl s
    · exact (updateConditions_sameForm ..).after (updElement_sameForm fun _ => rfl)
    · exact (updateConditions_sameForm ..).after (updElement_sameForm fun _ => rfl)
    · exact (updateConditions_sameForm ..).after ((requestSweep_sameForm ..).after ((verifyChildren_sameForm ..).after
        ((endAlarm_sameForm ..).after (updElement_sameForm fun _ => rfl))))
    · exact (updateConditions_sameForm ..).after ((requestSweep_sameForm ..).after ((verifyChildren_sameForm ..).after
        (updElement_sameForm fun _ => rfl)))

theorem retestMisses_sameForm (s : State) (d e : Nat) : s.SameForm (s.retestMisses d e) := by
  unfold State.retestMisses
  split
  · exact .refl s
  · split
    · exact goDown_sameForm ..
    · exact .refl s

theorem applyThreshold_sameForm (s : State) : s.SameForm s.applyThreshold :=
  foldl_sameForm (fun s d => foldl_sameForm (fun s e => retestMisses_sameForm s (d + 1) e) _ s) _ s

theorem retestLevels_sameForm (s : State) (old : Nat) : s.SameForm (s.retestLevels old) :=
  foldl_sameForm (fun u _ => followCondition_sameForm u ..) _ s

theorem endConditions_sameForm (s : State) (e : Nat) (x : Element) : s.SameForm (s.endConditions e x) :=
  (((endIf_sameForm ..).trans (endIf_sameForm ..)).trans (endIf_sameForm ..)).trans (endIf_sameForm ..)

end Sys2Proof.Machine
end

section
/-! PROOFS. The operations of a leg keep the form. A tap's command in flight is what makes this more than composition: the tap leaves its leg and comes to
stand elsewhere in one operation, and between the two it stands on both (R49, R53 to R58). -/

namespace Sys2Proof.Machine

variable {s : State} {leg tap : Nat} {q : QueueKind}

/-! ## Legs that keep their transaction, or drop it -/

/-- A leg has this transaction. -/
def State.awaits (s : State) (leg : Nat) (t : Transaction) : Prop := ∃ l, s.legs[leg]? = some l ∧ l.txn = some t

/-- A tap's command is in flight on this leg. -/
def State.flies (s : State) (leg tap : Nat) (q : QueueKind) : Prop := ∃ l, s.legs[leg]? = some l ∧ l.tapInFlight = some (tap, q)

theorem State.awaits.flies {index tries address : Nat} {built : List Setting}
    (h : s.awaits leg ⟨.tap index tries q built, address⟩) : s.flies leg index q := by
  obtain ⟨l, hl, ht⟩ := h
  exact ⟨l, hl, by simp [Leg.tapInFlight, ht]⟩

theorem State.awaits.updLeg {t : Transaction} {f : Leg → Leg} (h : s.awaits leg t) (hf : ∀ l, (f l).txn = l.txn) :
    (s.updLeg leg f).awaits leg t := by
  obtain ⟨l, hl, ht⟩ := h
  exact ⟨f l, by simp [State.updLeg, hl], (hf l).trans ht⟩

theorem State.awaits.counted {t : Transaction} (h : s.awaits leg t) (f : LegCounters → LegCounters) : (s.countLeg leg f).awaits leg t :=
  h.updLeg fun _ => rfl

/-- A leg that keeps the tap it flies, or comes to fly none. -/
theorem updLeg_sameForm {f : Leg → Leg}
    (h : ∀ l, s.legs[leg]? = some l → (f l).tapInFlight = l.tapInFlight ∨ (f l).tapInFlight = none) : s.SameForm (s.updLeg leg f) where
  __ := State.SameForm.refl s
  legs := by simp
  placed hs := by
    have hfly : ∀ (n : Nat) (l : Leg) (i : Nat) (p : QueueKind), (s.updLeg leg f).legs[n]? = some l → l.tapInFlight = some (i, p) →
        ∃ k, s.legs[n]? = some k ∧ k.tapInFlight = some (i, p) := by
      intro n l i p hn hf
      simp only [State.updLeg, List.getElem?_modify, Option.map_eq_map, Option.map_eq_some_iff] at hn
      obtain ⟨k, hk, rfl⟩ := hn
      refine ⟨k, hk, ?_⟩
      split at hf
      next hl => rcases h k (hl ▸ hk) with h' | h' <;> simp_all
      next => exact hf
    refine { hs with flying := fun n l i p hn hf => ?_, single := fun m n k l i p p' hm hn hk hl => ?_ }
    · obtain ⟨k, hk, hkf⟩ := hfly n l i p hn hf
      exact hs.flying n k i p hk hkf
    · obtain ⟨k', hk', hkf⟩ := hfly m k i p hm hk
      obtain ⟨l', hl', hlf⟩ := hfly n l i p' hn hl
      exact hs.single m n k' l' i p p' hk' hl' hkf hlf

theorem countLeg_sameForm (s : State) (leg : Nat) (f : LegCounters → LegCounters) : s.SameForm (s.countLeg leg f) :=
  updLeg_sameForm fun _ _ => .inl rfl

theorem hold_sameForm (s : State) (leg : Nat) (rx : List Byte) : s.SameForm (s.hold leg rx) := updLeg_sameForm fun _ _ => .inl rfl

theorem measure_sameForm (s : State) (leg micros : Nat) : s.SameForm (s.measure leg micros) := updLeg_sameForm fun _ _ => .inl rfl

theorem endTransaction_sameForm (s : State) (leg : Nat) : s.SameForm (s.endTransaction leg) := updLeg_sameForm fun _ _ => .inr rfl

theorem startCycle_sameForm (s : State) (leg : Nat) : s.SameForm (s.startCycle leg) := by
  have hdue : s.SameForm { s with elements := s.elements.mapAll fun _ x =>
      if x.leg = leg ∧ x.state.polled then { x with pollDue := true } else x } :=
    mapElements_sameForm fun _ x => by split <;> rfl
  exact hdue.trans (updLeg_sameForm fun _ _ => .inl rfl)

/-! ## A tap taken off a queue -/

theorem State.eligible_tap (h : s.eligible leg tap = true) : ∃ t, s.taps.get? tap = some t := by
  unfold State.eligible at h
  split at h
  · cases h
  next t ht => exact ⟨t, ht⟩

/-- R76: a queued tap leaves its queue for a leg. -/
theorem takeTap_placed (hs : s.Placed) (hq : tap ∈ s.urgent ∨ tap ∈ s.bulk) : (s.takeTap leg tap q).Placed := by
  obtain ⟨x, hx, ho, hc⟩ := hs.queued tap hq
  have hfree : ∀ (n : Nat) (l : Leg) (p : QueueKind), s.legs[n]? = some l → l.tapInFlight ≠ some (tap, p) := by
    intro n l p hn hf
    obtain ⟨y, hy, hyo, -⟩ := hs.flying n l tap p hn hf
    simp_all
  have hleft := leaveQueues_placed (tap := tap) hs
  have hout : ∀ i, i ∈ (s.leaveQueues tap).urgent ∨ i ∈ (s.leaveQueues tap).bulk → i ≠ tap := by
    rintro i hi rfl
    have := State.membership_eq_none.mp (membership_leaveQueues (s := s) (tap := i))
    tauto
  have hget : ∀ i, i ≠ tap → (s.takeTap leg tap q).taps.get? i = s.taps.get? i := by
    intro i hi
    simp [State.takeTap, hx, State.updTap, Table.get?_modify, Ne.symm hi]
  have hself : ∃ y, (s.takeTap leg tap q).taps.get? tap = some y ∧ y.origin = some q ∧ y.countdown = none := by
    simp [State.takeTap, hx, State.updTap, hc]
  have hlegs : ∀ (n : Nat) (l : Leg) (i : Nat) (p : QueueKind), (s.takeTap leg tap q).legs[n]? = some l → l.tapInFlight = some (i, p) →
      (n = leg ∧ i = tap ∧ p = q) ∨ (i ≠ tap ∧ s.legs[n]? = some l) := by
    intro n l i p hn hf
    simp only [State.takeTap, hx, State.transmit, State.updLeg, List.getElem?_modify, Option.map_eq_map, Option.map_eq_some_iff] at hn
    obtain ⟨k, hk, rfl⟩ := hn
    split at hf
    next hl =>
      simp only [Leg.tapInFlight, Option.some.injEq, Prod.mk.injEq] at hf
      exact .inl ⟨hl.symm, hf.1.symm, hf.2.symm⟩
    next hl =>
      refine .inr ⟨?_, by simpa [hl] using hk⟩
      rintro rfl
      exact hfree n k p (by simpa using hk) (by simpa using hf)
  have hurgent : (s.takeTap leg tap q).urgent = (s.leaveQueues tap).urgent := by simp [State.takeTap, hx]
  have hbulk : (s.takeTap leg tap q).bulk = (s.leaveQueues tap).bulk := by simp [State.takeTap, hx]
  constructor
  case taps => simpa [State.takeTap, hx, State.updTap] using Table.wf_modify hs.taps _ _
  case urgent => exact hurgent ▸ hleft.urgent
  case bulk => exact hbulk ▸ hleft.bulk
  case apart => simpa only [hurgent, hbulk] using hleft.apart
  case queued =>
    intro i hi
    rw [hurgent, hbulk] at hi
    rw [hget i (hout i hi)]
    exact hleft.queued i hi
  case flying =>
    intro n l i p hn hf
    obtain ⟨-, rfl, rfl⟩ | ⟨hi, hn'⟩ := hlegs n l i p hn hf
    · exact hself
    · rw [hget i hi]
      exact hs.flying n l i p hn' hf
  case single =>
    intro m n k l i p p' hm hn hk hl
    obtain ⟨rfl, rfl, rfl⟩ | ⟨hi, hm'⟩ := hlegs m k i p hm hk <;> obtain ⟨rfl, h1, h2⟩ | ⟨hi', hn'⟩ := hlegs n l i p' hn hl
    · rfl
    · exact absurd rfl hi'
    · exact absurd h1 hi
    · exact hs.single m n k l i p p' hm' hn' hk hl

theorem takeTap_sameForm (hq : tap ∈ s.urgent ∨ tap ∈ s.bulk) : s.SameForm (s.takeTap leg tap q) where
  __ := State.SameForm.refl s
  subs := .of_eq (by simp)
  accounts := by simp
  taps := by
    unfold State.takeTap
    split
    · exact .refl _ _
    · exact .modify (g := fun t : Tap => { t with origin := some q, dirty := false }) fun _ _ => rfl
  elements := .of_eq (by simp)
  inputs := by simp
  events := by simp
  alarms := by simpa using AlarmUnit.Alike.refl _
  slots := by simp
  tiers := by simp
  legs := by simp
  placed hs := takeTap_placed hs hq

theorem takePoll_sameForm (s : State) (leg element : Nat) (priority : Bool) : s.SameForm (s.takePoll leg element priority) := by
  unfold State.takePoll
  split
  · exact .refl s
  · dsimp only
    split
    · exact updLeg_sameForm fun _ _ => .inr rfl
    · exact (updLeg_sameForm fun _ _ => .inr rfl).after (updElement_sameForm fun _ => rfl)

theorem takeWork_sameForm (s : State) (leg : Nat) : s.SameForm (s.takeWork leg) := by
  unfold State.takeWork
  split
  · exact takePoll_sameForm ..
  · split
    next h => exact takeTap_sameForm (.inl (List.mem_of_find?_eq_some h))
    next =>
      split
      · exact takePoll_sameForm ..
      · split
        next h => exact takeTap_sameForm (.inr (List.mem_of_find?_eq_some h))
        next => exact .refl s

/-! ## A tap that comes off its leg -/

/-- A tap that stands on neither queue, is not in flight and does not count down: it may join a queue. -/
def State.standsNowhere (s : State) (tap : Nat) : Prop :=
  s.membership tap = none ∧ ∃ x, s.taps.get? tap = some x ∧ x.origin = none ∧ x.countdown = none

theorem State.standsNowhere.congr {t : State} (h : s.standsNowhere tap) (ht : t.taps = s.taps := by simp)
    (hu : t.urgent = s.urgent := by simp) (hb : t.bulk = s.bulk := by simp) : t.standsNowhere tap := by
  simpa only [State.standsNowhere, State.membership, ht, hu, hb] using h

theorem State.SameForm.join {t u : State} (h : s.SameForm t) (ht : s.Placed → t.standsNowhere tap)
    (hj : u = t.joinTail q tap ∨ u = t.joinHead q tap) : s.SameForm u := by
  have hplaced (hs : s.Placed) : u.Placed := (h.placed hs).join (ht hs).1 (ht hs).2 hj
  obtain ⟨urgent, bulk, rfl⟩ : ∃ urgent bulk, u = { t with urgent := urgent, bulk := bulk } := by
    rcases hj with rfl | rfl <;> cases q <;> exact ⟨_, _, rfl⟩
  exact { h with placed := hplaced }

/-- The transaction of a leg ends and its tap is in flight no more. -/
theorem landed_placed (hs : s.Placed) (hf : s.flies leg tap q) {f : Tap → Tap} :
    ((s.endTransaction leg).updTap tap f).Placed ∧ ((s.endTransaction leg).updTap tap f).membership tap = none := by
  obtain ⟨k, hk, hkf⟩ := hf
  obtain ⟨x, hx, hxo, hxc⟩ := hs.flying leg k tap q hk hkf
  have hended := (endTransaction_sameForm s leg).placed hs
  have hnot : tap ∉ s.urgent ∧ tap ∉ s.bulk := by
    constructor <;> intro hq
    · obtain ⟨y, hy, hyo, -⟩ := hs.queued tap (.inl hq)
      simp_all
    · obtain ⟨y, hy, hyo, -⟩ := hs.queued tap (.inr hq)
      simp_all
  have hget : ∀ i, i ≠ tap → ((s.endTransaction leg).updTap tap f).taps.get? i = s.taps.get? i := by
    intro i hi
    simp [State.updTap, Table.get?_modify, Ne.symm hi]
  have hother : ∀ (n : Nat) (l : Leg) (i : Nat) (p : QueueKind), (s.endTransaction leg).legs[n]? = some l →
      l.tapInFlight = some (i, p) → i ≠ tap ∧ s.legs[n]? = some l := by
    intro n l i p hn hl
    simp only [State.endTransaction, State.updLeg, List.getElem?_modify, Option.map_eq_map, Option.map_eq_some_iff] at hn
    obtain ⟨k', hk', rfl⟩ := hn
    split at hl
    · cases hl
    next hne =>
      refine ⟨?_, by simpa [hne] using hk'⟩
      rintro rfl
      exact hne (hs.single leg n k k' i q p hk hk' hkf (by simpa using hl))
  refine ⟨⟨?_, hended.urgent, hended.bulk, hended.apart, fun i hi => ?_, fun n l i p hn hl => ?_, hended.single⟩, ?_⟩
  · exact Table.wf_modify hended.taps _ _
  · have hi' : i ≠ tap := by
      rintro rfl
      simp_all
    rw [hget i hi']
    exact hs.queued i (by simpa using hi)
  · obtain ⟨hi, hn'⟩ := hother n l i p hn hl
    rw [hget i hi]
    exact hs.flying n l i p hn' hl
  · simpa [State.membership_eq_none] using hnot

theorem landed_sameForm (hf : s.flies leg tap q) {f : Tap → Tap} (hb : ∀ x, (f x).bindings = x.bindings) :
    s.SameForm ((s.endTransaction leg).updTap tap f) :=
  { endTransaction_sameForm s leg with
    taps := .trans (.of_eq (by simp)) (.modify fun x _ => hb x)
    placed := fun hs => (landed_placed hs hf).1 }

theorem landed_standsNowhere (hs : s.Placed) (hf : s.flies leg tap q) {f : Tap → Tap} (ho : ∀ x, (f x).origin = none)
    (hc : ∀ x, x.countdown = none → (f x).countdown = none) : ((s.endTransaction leg).updTap tap f).standsNowhere tap := by
  refine ⟨(landed_placed hs hf).2, ?_⟩
  obtain ⟨k, hk, hkf⟩ := hf
  obtain ⟨x, hx, -, hxc⟩ := hs.flying leg k tap q hk hkf
  exact ⟨f x, by simp [State.updTap, hx], ho x, hc x hxc⟩

/-! The order in which the transaction ends and the tap is written makes no difference. -/

theorem endTransaction_updTap (s : State) (leg tap : Nat) (f : Tap → Tap) :
    (s.updTap tap f).endTransaction leg = (s.endTransaction leg).updTap tap f := rfl

theorem endTransaction_joinTail (s : State) (leg tap : Nat) (q : QueueKind) :
    (s.joinTail q tap).endTransaction leg = (s.endTransaction leg).joinTail q tap := by cases q <;> rfl

theorem endTransaction_joinHead (s : State) (leg tap : Nat) (q : QueueKind) :
    (s.joinHead q tap).endTransaction leg = (s.endTransaction leg).joinHead q tap := by cases q <;> rfl

theorem endTransaction_raiseCondition (s : State) (leg : Nat) (k : AlarmKind) (subject : Nat) :
    (s.raiseCondition k subject).endTransaction leg = (s.endTransaction leg).raiseCondition k subject := rfl

theorem endTransaction_raiseOccurrence (s : State) (leg : Nat) (k : AlarmKind) (subject : Nat) :
    (s.raiseOccurrence k subject).endTransaction leg = (s.endTransaction leg).raiseOccurrence k subject := rfl

theorem endTransaction_endAlarm (s : State) (leg : Nat) (k : AlarmKind) (subject : Nat) :
    (s.endAlarm k subject).endTransaction leg = (s.endTransaction leg).endAlarm k subject := rfl

/-- R55, R58: the record of a tap whose command is no longer in flight. -/
def Tap.landed (t : Tap) : Tap := { t with origin := none, dirty := false }

theorem returnHeld_sameForm (hf : s.flies leg tap q) : s.SameForm ((s.returnHeld tap q).endTransaction leg) := by
  rw [State.returnHeld, endTransaction_joinHead, endTransaction_updTap]
  refine .join (landed_sameForm hf (f := Tap.landed) fun _ => rfl) (fun hs => ?_) (.inr rfl)
  exact landed_standsNowhere hs hf (fun _ => rfl) (fun _ => id)

/-- R57. -/
theorem goSilent_sameForm (hf : s.flies leg tap q) : s.SameForm ((s.goSilent tap).endTransaction leg) := by
  rw [State.goSilent, endTransaction_raiseCondition, endTransaction_updTap]
  exact (raiseCondition_sameForm ..).after (landed_sameForm hf Tap.forgotten_bindings)

theorem tapTryFailed_sameForm (hf : s.flies leg tap q) (tries address : Nat) : s.SameForm (s.tapTryFailed leg tap tries q address) := by
  unfold State.tapTryFailed
  split
  · exact endTransaction_sameForm ..
  · split
    · exact returnHeld_sameForm hf
    · split
      · obtain ⟨l, hl, hlf⟩ := hf
        refine .after (updLeg_sameForm fun k hk => .inl ?_) (updTap_sameForm (fun _ => rfl) (fun _ => rfl) (fun _ => id))
        obtain rfl : l = k := Option.some.inj (hl.symm.trans hk)
        exact hlf.symm
      · exact goSilent_sameForm hf

theorem confirmPorts_bindings (built : List Setting) (applied : Byte) (ports : List TapPort) :
    (confirmPorts built applied ports).map TapPort.subscriber = ports.map TapPort.subscriber := by
  unfold confirmPorts
  rw [List.map_map]
  conv_rhs => rw [← List.zipIdx_map_fst 0 ports, List.map_map]
  rfl

/-- R53: the record of a tap after a valid reply. -/
def Tap.replied (t : Tap) (built : List Setting) (applied lid : Byte) : Tap :=
  { t with
    ports := confirmPorts built applied t.ports, state := .inService, countdown := none, lid := lidOf lid, origin := none, dirty := false }

/-- R53: what a valid reply ends and raises, of a tap whose record was `t`. -/
def State.replyAlarms (s : State) (tap : Nat) (t : Tap) (lid : Byte) : State :=
  let s2 := if t.state = .silent then s.endAlarm .tapSilent tap else s
  if t.lid = .closed ∧ lidOf lid = .opened then s2.raiseOccurrence .tapTamper tap else s2

/-- R54: where a tap whose record was `t` goes after a valid reply. -/
def State.replyJoins (s : State) (tap : Nat) (t : Tap) (q : QueueKind) (applied : Byte) : State :=
  if t.dirty then s.joinTail q tap else if !allApplied applied then s.joinTail .bulk tap else s

/-- R53, R54: a valid reply in four parts: the transaction ends, the tap's record is written, alarms follow, and the tap joins a queue. -/
theorem tapReply_eq {t : Tap} (ht : s.taps.get? tap = some t) (built : List Setting) (applied lid : Byte) :
    s.tapReply leg tap q built applied lid =
      (((s.endTransaction leg).updTap tap fun t => t.replied built applied lid).replyAlarms tap t lid).replyJoins tap t q applied := by
  unfold State.tapReply State.replyJoins State.replyAlarms
  simp only [ht]
  cases q <;> split_ifs <;> rfl

theorem replyAlarms_sameForm (s : State) (tap : Nat) (t : Tap) (lid : Byte) : s.SameForm (s.replyAlarms tap t lid) := by
  have hended : s.SameForm (if t.state = .silent then s.endAlarm .tapSilent tap else s) := by
    split
    · exact endAlarm_sameForm ..
    · exact .refl s
  unfold State.replyAlarms
  dsimp only
  split
  · exact hended.trans (raiseOccurrence_sameForm ..)
  · exact hended

@[simp] theorem replyAlarms_frame (s : State) (tap : Nat) (t : Tap) (lid : Byte) :
    (s.replyAlarms tap t lid).taps = s.taps ∧ (s.replyAlarms tap t lid).urgent = s.urgent ∧
    (s.replyAlarms tap t lid).bulk = s.bulk := by
  unfold State.replyAlarms
  dsimp only
  split_ifs <;> simp

theorem tapReply_sameForm (hf : s.flies leg tap q) (built : List Setting) (applied lid : Byte) :
    s.SameForm (s.tapReply leg tap q built applied lid) := by
  cases ht : s.taps.get? tap with
  | none =>
    simp only [State.tapReply, ht]
    exact endTransaction_sameForm ..
  | some t =>
    rw [tapReply_eq ht]
    have hland := (landed_sameForm hf (f := fun t => t.replied built applied lid)
      fun x => confirmPorts_bindings built applied x.ports).trans (replyAlarms_sameForm _ tap t lid)
    have hidle (hs : s.Placed) :
        (((s.endTransaction leg).updTap tap fun t => t.replied built applied lid).replyAlarms tap t lid).standsNowhere tap :=
      (landed_standsNowhere hs hf (f := fun t => t.replied built applied lid) (fun _ => rfl) (fun _ _ => rfl)).congr
    unfold State.replyJoins
    split
    · exact hland.join hidle (.inl rfl)
    · split
      · exact hland.join hidle (.inl rfl)
      · exact hland

/-! ## The end of a try, and the receiver -/

theorem tryFailed_sameForm {t : Transaction} (h : s.awaits leg t) : s.SameForm (s.tryFailed leg t) := by
  obtain ⟨work, address⟩ := t
  cases work with
  | tap index tries origin built => exact tapTryFailed_sameForm h.flies tries address
  | poll e priority retired =>
    cases retired
    · exact (endTransaction_sameForm s leg).trans (applyMiss_sameForm ..)
    · exact endTransaction_sameForm s leg

theorem tryAnswered_sameForm {t : Transaction} (h : s.awaits leg t) (b0 b1 : Byte) : s.SameForm (s.tryAnswered leg t b0 b1) := by
  obtain ⟨work, address⟩ := t
  cases work with
  | tap index tries origin built => exact tapReply_sameForm h.flies built b0 b1
  | poll e priority retired =>
    cases retired
    · exact (endTransaction_sameForm s leg).trans (applyReply_sameForm ..)
    · exact endTransaction_sameForm s leg

theorem judge_sameForm {t : Transaction} (h : s.awaits leg t) (awaited : Nat) (frame : Received) :
    s.SameForm (s.judge leg awaited t frame) := by
  unfold State.judge
  split
  · exact .refl s
  · exact (countLeg_sameForm ..).trans (tryFailed_sameForm (h.counted _))
  · split
    · exact countLeg_sameForm ..
    · split
      · exact (countLeg_sameForm ..).trans (tryFailed_sameForm (h.counted _))
      · exact (countLeg_sameForm ..).trans (tryAnswered_sameForm (h.counted _) ..)

theorem receiveChar_sameForm (s : State) (leg : Nat) (c : Byte) : s.SameForm (State.receiveChar leg s c) := by
  unfold State.receiveChar
  split
  · exact .refl s
  next l hl =>
    split
    · exact .refl s
    next t ht =>
      split
      · unfold State.assembly
        split
        · exact hold_sameForm ..
        · have hawaits : (s.hold leg []).awaits leg t := State.awaits.updLeg ⟨l, hl, ht⟩ fun _ => rfl
          exact (hold_sameForm ..).trans (judge_sameForm hawaits ..)
      · exact .refl s

/-! ## Return faults -/

/-- R80. -/
theorem abandon_sameForm {t : Transaction} (h : s.awaits leg t) : s.SameForm (s.abandon leg t) := by
  obtain ⟨work, address⟩ := t
  cases work with
  | tap index tries origin built =>
    have hcounted : (s.countLeg leg fun c => { c with abandoned := up16 c.abandoned }).flies leg index origin :=
      State.awaits.flies (h.counted _)
    have hcommute : s.abandon leg ⟨.tap index tries origin built, address⟩ =
        ((s.countLeg leg fun c => { c with abandoned := up16 c.abandoned }).returnHeld index origin).endTransaction leg := by
      cases origin <;> rfl
    rw [hcommute]
    exact (countLeg_sameForm ..).trans (returnHeld_sameForm hcounted)
  | poll e priority retired =>
    unfold State.abandon
    dsimp only
    split
    · exact (countLeg_sameForm ..).trans (endTransaction_sameForm ..)
    · exact (endTransaction_sameForm ..).after ((countLeg_sameForm ..).after (updElement_sameForm fun _ => rfl))

theorem beginFault_sameForm {l : Leg} (hl : s.legs[leg]? = some l) : s.SameForm (s.beginFault leg l.activity l.txn) := by
  unfold State.beginFault
  dsimp only
  split
  next t _ ht =>
    have hawaits : s.awaits leg t := ⟨l, hl, ht⟩
    refine .after (abandon_sameForm ?_) (.after (raiseCondition_sameForm ..) (updLeg_sameForm fun _ _ => .inl rfl))
    exact hawaits.updLeg fun _ => rfl
  · exact (raiseCondition_sameForm ..).after (updLeg_sameForm fun _ _ => .inl rfl)

end Sys2Proof.Machine
end

section
/-! PROOFS. Every command but the fourteen that put records in tables or take them out, bind, or configure (`reshapes`) keeps the form, `State.SameForm`. -/

namespace Sys2Proof.Machine

variable {s t : State} {c : Instr}

/-! ## The port, the passing of time, and the lists changed whole -/

/-- The commands that put a record in a table or take one out, bind a household, or configure an input. -/
def reshapes : Instr → Bool
  | .hardReset _ | .clearStore _ | .enrol _ | .retireSubscriber _ | .bind _ | .move _ | .unbind _ | .enrolTap _ | .retireTap _
  | .enrolElement _ | .retireElement _ | .defineEvent _ | .removeEvent _ | .configureInput _ => true
  | _ => false

theorem mapLegs_sameForm {f : Leg → Leg} (h : ∀ l, (f l).tapInFlight = l.tapInFlight) : s.SameForm { s with legs := s.legs.map f } where
  __ := State.SameForm.refl s
  legs := by simp
  placed hs := by
    have hfly : ∀ (n : Nat) (l : Leg), (s.legs.map f)[n]? = some l → ∃ k, s.legs[n]? = some k ∧ l.tapInFlight = k.tapInFlight := by
      intro n l hn
      rw [List.getElem?_map, Option.map_eq_some_iff] at hn
      obtain ⟨k, hk, rfl⟩ := hn
      exact ⟨k, hk, h k⟩
    refine { hs with flying := fun n l i p hn hf => ?_, single := fun m n k l i p p' hm hn hk hl => ?_ }
    · obtain ⟨k, hk, hkf⟩ := hfly n l hn
      exact hs.flying n k i p hk (hkf ▸ hf)
    · obtain ⟨k', hk', hkf⟩ := hfly m k hm
      obtain ⟨l', hl', hlf⟩ := hfly n l hn
      exact hs.single m n k' l' i p p' hk' hl' (hkf ▸ hk) (hlf ▸ hl)

theorem mapInputs_sameForm {f : Input → Input} (h : ∀ x, (f x).watch = x.watch) : s.SameForm { s with inputs := s.inputs.map f } where
  __ := State.SameForm.refl s
  inputs := by simp [h]
  placed hs := hs.congr rfl rfl rfl rfl

theorem tick_sameForm (s : State) : s.SameForm s.tick := by
  unfold State.tick
  split
  · exact .refl s
  · have hlegs : s.SameForm { s with legs := s.legs.map Leg.tick } := mapLegs_sameForm fun _ => rfl
    have hinputs (u : State) : u.SameForm { u with inputs := u.inputs.map fun x => { x with timer := x.timer.map (· + 1) } } :=
      mapInputs_sameForm fun _ => rfl
    exact (hlegs.trans (hinputs _)).trans .rest

theorem ite_sameForm {p : Prop} [Decidable p] {u : State} (ht : s.SameForm t) (hu : s.SameForm u) : s.SameForm (if p then t else u) := by
  split
  · exact ht
  · exact hu

theorem sweepTap_sameForm (s : State) (scope : Scope) (tap : Nat) : s.SameForm (s.sweepTap scope tap) := by
  unfold State.sweepTap
  split
  · exact .refl s
  · split
    · exact .refl s
    · have hcleared : s.SameForm (s.updTap tap fun t => if scope.clearing then t.forgotten else t) := by
        split
        · exact updTap_sameForm Tap.forgotten_bindings (fun _ => rfl) (fun _ => id)
        · exact updTap_sameForm (fun _ => rfl) (fun _ => rfl) (fun _ => id)
      exact ite_sameForm (hcleared.trans (need_sameForm ..)) hcleared

section Request

variable {n : Nat} {modes : Modes} {body : List Byte} {owner : State → Served}

/-- R175: the port itself keeps the form. -/
theorem request_sameForm (h : s.SameForm (owner s).1) : s.SameForm (request n modes body owner s) := by
  have htests : s.SameForm (commonTests n modes body owner s).1 := by
    unfold commonTests
    split
    · exact .refl s
    · split
      · exact .refl s
      · exact h
  unfold request
  split
  · exact .rest
  · split
    · exact .rest
    · exact htests.trans .rest

theorem withAccount_sameForm {account : Nat} {rest : Nat → Subscriber → Served}
    (h : ∀ i r, s.subs.get? i = some r → s.SameForm (rest i r).1) : s.SameForm (s.withAccount account rest).1 := by
  unfold State.withAccount State.findAccount
  split
  · exact .refl s
  next i r hf =>
    split at hf
    · cases hf
    · split at hf
      · cases hf
      next hr => cases hf; exact h i r hr

theorem withTap_sameForm {tap : Nat} {rest : Tap → Served} (h : ∀ t, s.SameForm (rest t).1) : s.SameForm (s.withTap tap rest).1 := by
  unfold State.withTap
  split
  · exact .refl s
  · split
    · exact .refl s
    · exact h _

theorem withElement_sameForm {e : Nat} {rest : Element → Served} (h : ∀ x, s.SameForm (rest x).1) : s.SameForm (s.withElement e rest).1 := by
  unfold State.withElement
  split
  · exact .refl s
  · split
    · exact .refl s
    · exact h _

end Request

/-! ## Requests -/

theorem goLive_sameForm (s : State) : s.SameForm s.goLive := by
  have helements : s.SameForm { s with elements := s.elements.mapAll fun _ x =>
      { x with state := .suspect, miss := 0, since := none, priority := false } } := mapElements_sameForm fun _ _ => rfl
  have htaps (u : State) : u.SameForm { u with taps := u.taps.mapAll fun _ t => t.forgotten } :=
    mapTaps_sameForm (fun _ t => t.forgotten_bindings) (fun _ _ => rfl) (fun _ _ h => h)
  have hlive : s.SameForm { s with
      elements := s.elements.mapAll fun _ x => { x with state := .suspect, miss := 0, since := none, priority := false }
      taps := s.taps.mapAll fun _ t => t.forgotten
      mode := .live
      billing := { s.billing with start := some s.clock.minute, nextClose := some (s.clock.minute + s.billing.length) } } :=
    (helements.trans (htaps _)).trans .rest
  exact (hlive.trans (requestSweep_sameForm ..)).trans (foldl_sameForm (fun u leg => startCycle_sameForm u leg) _ _)

/-- A command leads from `s` to a state of the same form. -/
def Out.KeepsForm (s : State) (o : Out) : Prop := ∃ t, o = .next t ∧ s.SameForm t

theorem request_keepsForm {n : Nat} {modes : Modes} {body : List Byte} {owner : State → Served} (h : s.SameForm (owner s).1) :
    Out.KeepsForm s (.next (request n modes body owner s)) := ⟨_, rfl, request_sameForm h⟩

theorem AlarmUnit.fetched_alike (a : AlarmUnit) (e : Entry) : a.Alike (a.fetched e) := by
  unfold fetched
  split
  · exact put_alike ..
  · exact remove_alike ..

theorem AlarmUnit.acknowledge_alike (a : AlarmUnit) (e : Entry) : a.Alike (a.acknowledge e) := by
  unfold acknowledge
  split
  · exact remove_alike ..
  · exact put_alike ..

theorem AlarmUnit.setLevel_alike (a : AlarmUnit) (k : AlarmKind) (level : Nat) : a.Alike (a.setLevel k level) := by
  unfold setLevel
  dsimp only
  split
  · exact ⟨fun h => Table.wf_filter h _, by simp [removeKind]⟩
  · exact ⟨id, by simp⟩

/-- The requests, but for those that reshape a table. -/
theorem exec_request_keepsForm (hr : requestRow c ≠ none) (hc : reshapes c = false) : Out.KeepsForm s (exec c s) := by
  cases c
  -- the owner only reads
  case readSubscriber => exact request_keepsForm (withAccount_sameForm fun _ _ _ => .refl s)
  case readTap => exact request_keepsForm (withTap_sameForm fun _ => .refl s)
  case readElement => exact request_keepsForm (withElement_sameForm fun _ => .refl s)
  case nextSubscriber =>
    refine request_keepsForm ?_
    unfold nextSubscriberOwner
    split
    · exact .refl s
    · exact withAccount_sameForm fun _ _ _ => .refl s
  case readSwitching | readClock | readBilling | readInputs | readAlarmUnit => exact request_keepsForm (.refl s)
  case readChannel | readTier | nextElement | readEvent | nextEvent | readAlarm | nextAlarm =>
    refine request_keepsForm ?_
    simp only [readChannelOwner, readTierOwner, nextElementOwner, readEventOwner, nextEventOwner, readAlarmOwner, nextAlarmOwner]
    (repeat' split) <;> exact .refl s
  case readLeg =>
    refine request_keepsForm ?_
    unfold readLegOwner
    dsimp only
    split
    · exact .refl s
    · split
      · exact .refl s
      · dsimp only [State.served]
        split
        · exact countLeg_sameForm ..
        · exact .refl s
  -- the owner writes fields that no invariant of the form reads
  case readStatus => exact request_keepsForm .rest
  case setEventParameters | setAlarmMask =>
    refine request_keepsForm ?_
    split <;> exact .restWith rfl ⟨id, rfl⟩ rfl rfl
  case setClock | adjustClock | setNextClose | setBillingParameters =>
    refine request_keepsForm ?_
    simp only [setClockOwner, adjustClockOwner, setNextCloseOwner, setBillingOwner]
    (repeat' split) <;> exact .rest
  case setReference => exact request_keepsForm (setReference_sameForm ..)
  -- the line-up
  case defineChannel =>
    refine request_keepsForm ?_
    unfold defineChannelOwner
    dsimp only
    (repeat' split) <;> first | exact .refl s | exact (requestSweep_sameForm ..).after (updSlot_sameForm _)
  case stageChannelChange | withdrawStagedChange =>
    refine request_keepsForm ?_
    simp only [stageChannelOwner, withdrawStagedOwner]
    (repeat' split) <;> first | exact .refl s | exact updSlot_sameForm _
  case defineTier | stageTierRate =>
    refine request_keepsForm ?_
    split
    · exact .refl s
    · exact updTier_sameForm _
  -- the plant
  case setLinkParameters =>
    refine request_keepsForm ?_
    unfold setLinkOwner
    split
    · exact .refl s
    next p _ =>
      refine .after (.rest (s := { s with legs := s.legs.map fun l => Leg.takesRate l p.rate })) (mapLegs_sameForm fun l => ?_)
      unfold Leg.takesRate
      split <;> rfl
  case setTopologyParameters =>
    refine request_keepsForm ?_
    unfold setTopologyOwner
    dsimp only
    split
    · exact .refl s
    · dsimp only [State.served]
      refine .after (retestLevels_sameForm ..) ?_
      split
      · exact .after (applyThreshold_sameForm _) .rest
      · exact .rest
  case resendTap =>
    refine request_keepsForm (withTap_sameForm fun _ => ?_)
    dsimp only [State.served]
    refine (need_sameForm ..).after (updTap_sameForm ?_ ?_ ?_)
    · exact Tap.forgotten_bindings
    · exact fun _ => rfl
    · exact fun _ _ => rfl
  case goLive =>
    refine request_keepsForm ?_
    unfold goLiveOwner
    split
    · exact .refl s
    · exact goLive_sameForm s
  -- the alarms
  case fetchAlarm =>
    refine request_keepsForm ?_
    unfold fetchAlarmOwner
    split
    · exact .refl s
    · exact .restWith rfl (AlarmUnit.fetched_alike ..) rfl rfl
  case acknowledgeAlarm =>
    refine request_keepsForm ?_
    unfold ackOwner
    (repeat' split) <;> first | exact .refl s | exact .restWith rfl (AlarmUnit.acknowledge_alike ..) rfl rfl
  case setAlarmLevel =>
    refine request_keepsForm ?_
    unfold setAlarmLevelOwner
    (repeat' split) <;> first | exact .refl s | exact .restWith rfl (AlarmUnit.setLevel_alike ..) rfl rfl
  -- one household
  case nextChangedSubscriber =>
    refine request_keepsForm ?_
    unfold nextChangedSubscriberOwner
    split
    · exact .refl s
    · exact withAccount_sameForm fun _ _ _ => updSub_sameForm fun _ _ => rfl
  case activate | suspend | resume =>
    refine request_keepsForm (withAccount_sameForm fun _ _ _ => ?_)
    split
    · exact .refl s
    · exact requestChange_sameForm ..
  case changeTiers =>
    refine request_keepsForm (withAccount_sameForm fun _ _ _ => ?_)
    split
    · exact .refl s
    · exact (needFor_sameForm ..).after (updSub_sameForm fun _ _ => rfl)
  case closeSubscriber =>
    refine request_keepsForm (withAccount_sameForm fun _ _ _ => ?_)
    split
    · exact .refl s
    · exact closeSubscriber_sameForm ..
  case collectStatement =>
    refine request_keepsForm (withAccount_sameForm fun _ _ _ => ?_)
    split
    · exact .refl s
    · exact updSub_sameForm fun _ _ => rfl
  case setCeiling | topUp | postPayment | postAdjustment =>
    refine request_keepsForm ?_
    simp only [setCeilingOwner, topUpOwner, postPaymentOwner, postAdjustmentOwner]
    split
    · exact .refl s
    · refine withAccount_sameForm fun i r hr => ?_
      (repeat' split) <;> first
        | exact .refl s
        | refine .after (requestChange_sameForm ..) (updSub_sameForm fun x hx => ?_)
          obtain rfl : r = x := Option.some.inj (hr.symm.trans hx)
          first | rfl | exact Subscriber.adjusted_bound ..
  -- events and purchases
  case purchase =>
    refine request_keepsForm ?_
    simp only [purchaseOwner, State.purchase]
    split
    · exact .refl s
    · split
      · exact .refl s
      · refine withAccount_sameForm fun i r hr => ?_
        (repeat' split) <;> first
          | exact .refl s
          | exact (updEvent_sameForm _).after (updSub_sameForm fun x hx => by simp_all)
          | exact (needFor_sameForm ..).after ((updEvent_sameForm _).after (updSub_sameForm fun x hx => by simp_all))
  case withdrawPurchase =>
    refine request_keepsForm (withAccount_sameForm fun _ _ _ => ?_)
    split
    · exact .refl s
    · split
      · exact .refl s
      · split
        · exact .refl s
        · dsimp only [State.served]
          exact (refund_sameForm ..).after ((updEvent_sameForm _).after (updSub_sameForm fun _ _ => rfl))
  case cancelEvent =>
    refine request_keepsForm ?_
    unfold cancelEventOwner
    dsimp only
    (repeat' split) <;> first
      | exact .refl s
      | exact (refundAll_sameForm ..).after (updEvent_sameForm _)
      | exact (requestSweep_sameForm ..).after ((refundAll_sameForm ..).after (updEvent_sameForm _))
  all_goals first | exact absurd rfl hr | cases hc

/-- The commands that are no request, but for a hard reset. -/
theorem exec_event_keepsForm (hr : requestRow c = none) (hc : reshapes c = false) : Out.KeepsForm s (exec c s) := by
  cases c
  -- the Request Port
  case requestFrameDiscarded | partialFrameDiscarded | unknownRequest | responseReady | readSelect =>
    simp only [exec, execRequestFrameDiscarded, execPartialFrameDiscarded, execUnknownRequest, execResponseReady, execReadSelect]
    (repeat' split) <;> exact ⟨_, rfl, .rest⟩
  -- the Time Base
  case secondEdge =>
    simp only [exec, execSecondEdge]
    split
    · exact ⟨_, rfl, secondEdge_sameForm ..⟩
    · exact ⟨_, rfl, .refl s⟩
  case referencePulse =>
    simp only [exec, execReferencePulse]
    split
    · exact ⟨_, rfl, .refl s⟩
    · split
      · exact ⟨_, rfl, (pulseTaken_sameForm s).trans (secondEdge_sameForm ..)⟩
      · split
        · exact ⟨_, rfl, .rest⟩
        · exact ⟨_, rfl, (pulseTaken_sameForm s).trans .rest⟩
  case lossTimerExpiry =>
    simp only [exec, execLossTimerExpiry]
    split
    · exact ⟨_, rfl, .refl s⟩
    · exact ⟨_, rfl, .refl s⟩
    all_goals
      split
      · exact ⟨_, rfl, .after (raiseCondition_sameForm ..) .rest⟩
      · exact ⟨_, rfl, .refl s⟩
  -- a boundary
  case lineupTakesBoundary =>
    simp only [exec, execLineupTakesBoundary]
    split
    · exact ⟨_, rfl, .refl s⟩
    · exact ⟨_, rfl, .after (foldl_sameForm (fun u i => slotBoundary_sameForm u _ i) _ _) .rest⟩
  case eventTableTakesBoundary =>
    simp only [exec, execEventTableTakesBoundary]
    split
    · exact ⟨_, rfl, .refl s⟩
    · exact ⟨_, rfl, .after (foldl_sameForm (fun u id => eventBoundary_sameForm u _ id) _ _) .rest⟩
  case tapTableTakesBoundary =>
    simp only [exec, execTapTableTakesBoundary]
    split
    · exact ⟨_, rfl, .refl s⟩
    next later _ =>
      refine ⟨_, rfl, .after (.rest (s := { s with taps := s.taps.mapAll fun i t => if s.countdownRuns i t then t.counted else t }))
        (mapTaps_sameForm (fun i t => ?_) (fun i t => ?_) (fun i t h => ?_))⟩ <;>
        (split <;> simp_all [Tap.counted, Tap.bindings] <;> split <;> rfl)
  -- the walks, the sweep and the countdown
  case silentCountdownExpiry =>
    simp only [exec, execSilentCountdownExpiry]
    split
    · exact ⟨_, rfl, .refl s⟩
    · split
      · exact ⟨_, rfl, (need_sameForm ..).after (updTap_sameForm (f := fun t => { t with countdown := none }) (fun _ => rfl) (fun _ => rfl)
          (fun _ _ => rfl))⟩
      · exact ⟨_, rfl, .refl s⟩
  case meteringVisit =>
    simp only [exec, execMeteringVisit]
    split
    · exact ⟨_, rfl, .refl s⟩
    · split
      · exact ⟨_, rfl, (visit_sameForm ..).trans .rest⟩
      · exact ⟨_, rfl, (visit_sameForm ..).trans (endPass_sameForm ..)⟩
  case endWalkVisit =>
    simp only [exec, execEndWalkVisit]
    split
    · exact ⟨_, rfl, .refl s⟩
    · split
      · exact ⟨_, rfl, .refl s⟩
      · split
        · exact ⟨_, rfl, (walkVisit_sameForm ..).trans (updEvent_sameForm _)⟩
        · split
          · exact ⟨_, rfl, ((walkVisit_sameForm ..).trans (updEvent_sameForm _)).trans (raiseOccurrence_sameForm ..)⟩
          · exact ⟨_, rfl, (walkVisit_sameForm ..).trans (updEvent_sameForm _)⟩
  case sweepVisit =>
    simp only [exec, execSweepVisit]
    split
    · exact ⟨_, rfl, .refl s⟩
    · split
      · exact ⟨_, rfl, (sweepTap_sameForm ..).trans .rest⟩
      · exact ⟨_, rfl, (sweepTap_sameForm ..).trans .rest⟩
  -- the legs
  case legTakesWork =>
    simp only [exec, execLegTakesWork]
    split
    · exact ⟨_, rfl, .refl s⟩
    · split
      · exact ⟨_, rfl, takeWork_sameForm ..⟩
      · exact ⟨_, rfl, .refl s⟩
  case frameTransmitted | frameCutShort =>
    simp only [exec, execFrameTransmitted, execFrameCutShort]
    split
    · exact ⟨_, rfl, .refl s⟩
    · split
      · exact ⟨_, rfl, updLeg_sameForm fun _ _ => .inl rfl⟩
      · exact ⟨_, rfl, .refl s⟩
  case replyFrameReceived leg _ => exact ⟨_, rfl, foldl_sameForm (fun u x => receiveChar_sameForm u leg x) _ s⟩
  case tryTimerExpiry leg =>
    simp only [exec, execTryTimerExpiry]
    split
    · exact ⟨_, rfl, .refl s⟩
    next l hl =>
      split
      · exact ⟨_, rfl, .refl s⟩
      next t ht =>
        have hawaits : s.awaits leg t := ⟨l, hl, ht⟩
        split
        · exact ⟨_, rfl, (countLeg_sameForm ..).trans (tryFailed_sameForm (hawaits.counted _))⟩
        · exact ⟨_, rfl, .refl s⟩
  case pollCycleExpiry =>
    simp only [exec, execPollCycleExpiry]
    split
    · exact ⟨_, rfl, .refl s⟩
    · split
      · exact ⟨_, rfl, startCycle_sameForm ..⟩
      · exact ⟨_, rfl, .refl s⟩
  case returnFaultBegins =>
    simp only [exec, execReturnFaultBegins]
    split
    · exact ⟨_, rfl, .refl s⟩
    next l hl =>
      split
      · exact ⟨_, rfl, .refl s⟩
      · split
        · exact ⟨_, rfl, beginFault_sameForm hl⟩
        · exact ⟨_, rfl, measure_sameForm ..⟩
  case returnFaultEnds =>
    simp only [exec, execReturnFaultEnds]
    split
    · exact ⟨_, rfl, .refl s⟩
    · split
      · exact ⟨_, rfl, .refl s⟩
      · split
        · exact ⟨_, rfl, (endAlarm_sameForm ..).after (updLeg_sameForm fun _ _ => .inl rfl)⟩
        · exact ⟨_, rfl, measure_sameForm ..⟩
  -- the contact inputs
  case pinLevelChange =>
    simp only [exec, execPinLevelChange]
    split
    · exact ⟨_, rfl, .refl s⟩
    · split
      · exact ⟨_, rfl, .refl s⟩
      · split
        · exact ⟨_, rfl, (takeLevel_sameForm ..).after (updInput_sameForm fun _ => rfl)⟩
        · exact ⟨_, rfl, updInput_sameForm fun _ => rfl⟩
  case debounceTimerExpiry =>
    simp only [exec, execDebounceTimerExpiry]
    split
    · exact ⟨_, rfl, .refl s⟩
    · split
      · exact ⟨_, rfl, takeLevel_sameForm ..⟩
      · exact ⟨_, rfl, .refl s⟩
  case hardReset => cases hc
  all_goals cases hr

/-- Every command but those that put records in tables or take them out, bind, or configure keeps the form. -/
theorem exec_sameForm (hc : reshapes c = false) (h : exec c s = .next t) : s.SameForm t := by
  obtain ⟨u, hu, hsu⟩ : Out.KeepsForm s (exec c s) := by
    by_cases hr : requestRow c = none
    · exact exec_event_keepsForm hr hc
    · exact exec_request_keepsForm hr hc
  obtain rfl : u = t := by simpa [hu] using h
  exact hsu

/-- What a command keeps, and the passing of time with it, every step keeps. -/
theorem step_keeps {P : State → Prop} (hrest : ∀ s q, P s → P { s with pending := q }) (htick : ∀ s, P s → P s.tick)
    (hexec : ∀ c s t, P s → exec c s = .next t → P t) (hs : P s) (h : step s = .next t) : P t := by
  unfold step at h
  split at h
  · cases h
    exact htick s hs
  next c rest _ => exact hexec c _ t (hrest s rest hs) h

end Sys2Proof.Machine
end

section
/-! PROOFS. What the thirteen commands of `reshapes` do: `State.Reshaping`, one case for each, with what its tests found. An invariant that reads neither the port
nor more than the form needs then no more than these cases. -/

namespace Sys2Proof.Machine

variable {s t : State} {c : Instr}

/-- The state a hard reset leaves. -/
def State.hardReset (s : State) (selectAsserted : Bool) : State :=
  { State.reset with
    port := { Port.reset with selectIgnored := selectAsserted }
    inputs := s.inputs.map fun x => Input.reset x.pin
    free := s.free, pending := s.pending }

theorem exec_hardReset (s : State) (b : Bool) : exec (.hardReset b) s = .next (s.hardReset b) := rfl


/-- R19: the record at an index, its account and its binding are gone. -/
def State.retireRecord (s : State) (account i : Nat) (r : Subscriber) : State :=
  { s.unbindRecord i r.tapPort with
    subs := (s.unbindRecord i r.tapPort).subs.erase i
    accounts := (s.unbindRecord i r.tapPort).accounts.erase account
    events := (s.unbindRecord i r.tapPort).events.mapAll fun _ e => e.forget i }

/-- R45: the tap at an index is gone from the queues and the table. -/
def State.retireTap (s : State) (tap : Nat) (t : Tap) : State :=
  let s2 := if t.state = .silent then (s.leaveQueues tap).endAlarm .tapSilent tap else s.leaveQueues tap
  { s2 with taps := s2.taps.erase tap }

/-- R91: the element at an index is gone, its conditions ended. -/
def State.retireElement (s : State) (e : Nat) (x : Element) : State :=
  { s.endConditions e x with
    elements := (s.endConditions e x).elements.erase e
    legs := (s.endConditions e x).legs.map fun l => Leg.orphaned l e }

/-- What a command that reshapes a table leads to, but for the port. -/
inductive State.Reshaping (s : State) : State → Prop
  | hardReset (b : Bool) : s.Reshaping (s.hardReset b)
  | clearStore : s.Reshaping s.clearStore
  | enrol (f : EnrolFields) : f.inRange = true → s.accounts.get? f.account = none → s.tapPortTest f.tapPort = none →
      s.Reshaping (s.enrolAt s.subs.lowestFree f)
  | retireSubscriber (account i : Nat) (r : Subscriber) : s.accounts.get? account = some i → s.subs.get? i = some r →
      s.Reshaping (s.retireRecord account i r)
  | bind (i : Nat) (r : Subscriber) (p : PortRef) (x : Tap) : portOk p.port = true → s.subs.get? i = some r → r.tapPort = none →
      s.taps.get? p.tap = some x → x.boundTo p.port = none → s.Reshaping ((s.bindPort i p).need .urgent p.tap)
  | move (i : Nat) (r : Subscriber) (old p : PortRef) (x : Tap) : portOk p.port = true → s.subs.get? i = some r → r.tapPort = some old →
      s.taps.get? p.tap = some x → x.boundTo p.port = none →
      s.Reshaping (((s.releasePort i old).bindPort i p).moveNeeds old.tap p.tap)
  | unbind (i : Nat) (r : Subscriber) (p : PortRef) : s.subs.get? i = some r → r.tapPort = some p →
      s.Reshaping ((s.releasePort i p).need .urgent p.tap)
  | enrolTap (address feeding : Nat) : s.Reshaping { s with taps := s.taps.set s.taps.lowestFree (newTap address feeding) }
  | retireTap (tap : Nat) (t : Tap) : s.taps.get? tap = some t → (∀ p ∈ t.ports, p.subscriber = none) → t.origin = none →
      s.Reshaping (s.retireTap tap t)
  | enrolRoot (mode : DeviceMode) (address leg : Nat) :
      s.Reshaping { s with elements := s.elements.set s.elements.lowestFree (newElement mode address leg none) }
  | enrolChild (mode : DeviceMode) (address leg parent : Nat) (p : Element) : s.elements.get? parent = some p → p.depth ≠ 16 →
      s.Reshaping { s with elements := s.elements.set s.elements.lowestFree (newElement mode address leg (some (parent, p))) }
  | retireElement (e : Nat) (x : Element) : s.elements.get? e = some x → (∀ q ∈ s.elements, q.2.parent ≠ some e) →
      s.Reshaping (s.retireElement e x)
  | defineEvent (id : Nat) (e : EventRec) : s.Reshaping { s with events := s.events.set id e }
  | removeEvent (id : Nat) : s.Reshaping { s with events := s.events.erase id }
  | configure (input : Nat) (x : Input) (c : Role × Nat × Sense × Nat) : s.inputs[input]? = some x →
      (c.1 = .carrier → c.2.2.1.isLevel = true) → s.Reshaping (s.configure input x c)

section Owner

variable {n : Nat} {modes : Modes} {body : List Byte} {owner : State → Served}

/-- What an owner of a reshaping request makes of the state. -/
def State.KeptOrReshaped (s t : State) : Prop := t = s ∨ s.Reshaping t

theorem request_reshapes (ho : s.KeptOrReshaped (owner s).1) : s.SameForm (request n modes body owner s) ∨
    ∃ u, s.Reshaping u ∧ ∃ port, request n modes body owner s = { u with port := port } := by
  have htests : s.KeptOrReshaped (commonTests n modes body owner s).1 := by
    unfold commonTests
    split
    · exact .inl rfl
    · split
      · exact .inl rfl
      · exact ho
  unfold request
  split
  · exact .inl .rest
  · split
    · exact .inl .rest
    · obtain hkept | hreshaped := htests
      · dsimp only
        rw [hkept]
        exact .inl .rest
      · exact .inr ⟨_, hreshaped, _, rfl⟩

theorem withAccount_reshapes {account : Nat} {rest : Nat → Subscriber → Served}
    (h : ∀ i r, s.accounts.get? account = some i → s.subs.get? i = some r → s.KeptOrReshaped (rest i r).1) :
    s.KeptOrReshaped (s.withAccount account rest).1 := by
  unfold State.withAccount State.findAccount
  split
  · exact .inl rfl
  next i r hf =>
    split at hf
    · cases hf
    next hi =>
      split at hf
      · cases hf
      next hr => cases hf; exact h i r hi hr

theorem enrolOwner_reshapes (body : List Byte) (s : State) : s.KeptOrReshaped (enrolOwner body s).1 := by
  simp only [enrolOwner]
  split
  · exact .inl rfl
  next hrange =>
    split
    · exact .inl rfl
    · split
      · exact .inl rfl
      next hnew =>
        split
        · exact .inl rfl
        · split
          · exact .inl rfl
          next htap => exact .inr (.enrol _ (by simpa using hrange) (by simpa using hnew) htap)

theorem bindOwner_reshapes (body : List Byte) (s : State) : s.KeptOrReshaped (bindOwner body s).1 := by
  simp only [bindOwner]
  split
  · exact .inl rfl
  next hfields =>
    refine withAccount_reshapes fun i r _ hr => ?_
    split
    · exact .inl rfl
    next x hx =>
      split
      · exact .inl rfl
      · split
        · exact .inl rfl
        next hfree =>
          split
          · exact .inl rfl
          next hport =>
            exact .inr (.bind i r ⟨u16 body 4, u8 body 6⟩ x (by simpa using (not_or.mp hfields).2) hr (by simpa using hfree) hx
              (by simpa using hport))

theorem moveOwner_reshapes (body : List Byte) (s : State) : s.KeptOrReshaped (moveOwner body s).1 := by
  simp only [moveOwner]
  split
  · exact .inl rfl
  next hfields =>
    refine withAccount_reshapes fun i r _ hr => ?_
    split
    · exact .inl rfl
    next x hx =>
      split
      · exact .inl rfl
      · split
        · exact .inl rfl
        next old hold =>
          split
          · exact .inl rfl
          next hport =>
            split
            · exact .inl rfl
            · exact .inr (.move i r old ⟨u16 body 4, u8 body 6⟩ x (by simpa using (not_or.mp hfields).2) hr hold hx
                (by simpa using hport))

theorem enrolTapOwner_reshapes (body : List Byte) (s : State) : s.KeptOrReshaped (enrolTapOwner body s).1 := by
  simp only [enrolTapOwner]
  (repeat' split) <;> first | exact .inl rfl | exact .inr (.enrolTap ..)

theorem retireTapOwner_reshapes (body : List Byte) (s : State) : s.KeptOrReshaped (retireTapOwner body s).1 := by
  simp only [retireTapOwner, State.withTap]
  split
  · exact .inl rfl
  · split
    · exact .inl rfl
    next t ht =>
      split
      · exact .inl rfl
      next hbound =>
        split
        · exact .inl rfl
        next hflight =>
          refine .inr (.retireTap (u16 body 0) t ht (fun p hp => ?_) (by simpa [Tap.inFlight] using hflight))
          simp only [List.any_eq_true, not_exists, not_and] at hbound
          simpa using hbound p hp

theorem enrolElementOwner_reshapes (body : List Byte) (s : State) : s.KeptOrReshaped (enrolElementOwner body s).1 := by
  simp only [enrolElementOwner]
  split
  · exact .inl rfl
  · split
    · exact .inl rfl
    · split
      · exact .inl rfl
      · split
        · exact .inr (.enrolRoot ..)
        · split
          · exact .inl rfl
          next p hp =>
            split
            · exact .inl rfl
            next hdepth => exact .inr (.enrolChild _ _ _ _ p hp hdepth)

theorem retireElementOwner_reshapes (body : List Byte) (s : State) : s.KeptOrReshaped (retireElementOwner body s).1 := by
  simp only [retireElementOwner, State.withElement]
  split
  · exact .inl rfl
  · split
    · exact .inl rfl
    next x hx =>
      split
      · exact .inl rfl
      next hchildren =>
        split
        · exact .inl rfl
        · refine .inr (.retireElement (u8 body 0) x hx fun q hq => ?_)
          simp only [ne_eq, not_not, State.childCount, List.length_eq_zero_iff, List.filter_eq_nil_iff] at hchildren
          simpa using hchildren q hq

theorem defineEventOwner_reshapes (body : List Byte) (s : State) : s.KeptOrReshaped (defineEventOwner body s).1 := by
  simp only [defineEventOwner]
  (repeat' split) <;> first | exact .inl rfl | exact .inr (.defineEvent ..)

theorem removeEventOwner_reshapes (body : List Byte) (s : State) : s.KeptOrReshaped (removeEventOwner body s).1 := by
  simp only [removeEventOwner]
  (repeat' split) <;> first | exact .inl rfl | exact .inr (.removeEvent ..)

/-- R159: a CARRIER configuration has a level sense. -/
theorem isLevel_of_configAt {body : List Byte} {c : Role × Nat × Sense × Nat} (h : configAt body = some c) (hc : c.1 = .carrier) :
    c.2.2.1.isLevel = true := by
  unfold configAt at h
  split at h
  · split_ifs at h
    obtain rfl := Option.some.inj h
    simp_all
  · cases h

theorem configureInputOwner_reshapes (body : List Byte) (s : State) : s.KeptOrReshaped (configureInputOwner body s).1 := by
  unfold configureInputOwner
  split
  next c x hc hx => exact .inr (.configure (u8 body 0) x c hx (isLevel_of_configAt hc))
  · exact .inl rfl

end Owner

/-- Every command keeps the form, or reshapes the state in one of the ways of `State.Reshaping`, but for the port. -/
theorem exec_sameForm_or_reshaping (h : exec c s = .next t) :
    s.SameForm t ∨ ∃ u, s.Reshaping u ∧ ∃ port, t = { u with port := port } := by
  cases hc : reshapes c
  · exact .inl (exec_sameForm hc h)
  cases c
  case hardReset b => cases h; exact .inr ⟨_, .hardReset b, _, rfl⟩
  case clearStore => cases h; exact request_reshapes (.inr .clearStore)
  case enrol => cases h; exact request_reshapes (enrolOwner_reshapes _ s)
  case retireSubscriber =>
    cases h
    refine request_reshapes (withAccount_reshapes fun i r hi hr => ?_)
    split
    · exact .inl rfl
    · split
      · exact .inl rfl
      · exact .inr (.retireSubscriber _ i r hi hr)
  case bind => cases h; exact request_reshapes (bindOwner_reshapes _ s)
  case move => cases h; exact request_reshapes (moveOwner_reshapes _ s)
  case unbind =>
    cases h
    refine request_reshapes (withAccount_reshapes fun i r _ hr => ?_)
    split
    · exact .inl rfl
    next p hp =>
      split
      · exact .inl rfl
      · exact .inr (.unbind i r p hr hp)
  case enrolTap => cases h; exact request_reshapes (enrolTapOwner_reshapes _ s)
  case retireTap => cases h; exact request_reshapes (retireTapOwner_reshapes _ s)
  case enrolElement => cases h; exact request_reshapes (enrolElementOwner_reshapes _ s)
  case retireElement => cases h; exact request_reshapes (retireElementOwner_reshapes _ s)
  case defineEvent => cases h; exact request_reshapes (defineEventOwner_reshapes _ s)
  case removeEvent => cases h; exact request_reshapes (removeEventOwner_reshapes _ s)
  case configureInput => cases h; exact request_reshapes (configureInputOwner_reshapes _ s)
  all_goals cases hc

end Sys2Proof.Machine
end

section
/-! PROOFS. The invariants of the form, the tree, the bindings, the account index and the places of the taps, kept by every step. Each follows from
`State.SameForm` for most commands and from the cases of `State.Reshaping` for the rest. -/

namespace Sys2Proof.Machine

variable {s t : State} {c : Instr}

theorem State.SameForm.formed (h : s.SameForm t) (hs : s.Formed) : t.Formed where
  subs := h.subs.wf hs.subs
  accounts := h.accounts ▸ hs.accounts
  events := (Table.wf_congr h.events).trans hs.events
  taps := h.taps.wf hs.taps
  elements := h.elements.wf hs.elements
  alarms := h.alarms.1 hs.alarms
  slots := h.slots.trans hs.slots
  tiers := h.tiers.trans hs.tiers
  legs := h.legs.trans hs.legs
  inputs := by simpa using (congrArg List.length h.inputs).trans (by simpa using hs.inputs)
  levels := h.alarms.2.trans hs.levels

theorem State.SameForm.sensed (h : s.SameForm t) (hs : s.Sensed) : t.Sensed := by
  intro x hx hrole
  have hmem : x.watch ∈ s.inputs.map Input.watch := h.inputs ▸ List.mem_map_of_mem hx
  obtain ⟨y, hy, hyx⟩ := List.mem_map.mp hmem
  obtain ⟨hr, hsense⟩ := Prod.mk.inj hyx
  rw [← hsense]
  exact hs y hy (hr.trans hrole)

/-- The account index is read from the accounts of the records. -/
theorem Table.Alike.indexed (h : Table.Alike Subscriber.account s.subs t.subs) (ha : t.accounts = s.accounts) (hs : s.Indexed) :
    t.Indexed where
  subs := h.wf hs.subs
  found account i hi := by
    obtain ⟨r, hr, hra⟩ := hs.found account i (ha ▸ hi)
    obtain ⟨x, hx, hxr⟩ := h.exists_get? hr
    exact ⟨x, hx, hxr.trans hra⟩
  listed i r hr := by
    obtain ⟨x, hx, hxr⟩ := h.exists_of_get? hr
    rw [ha, ← hxr]
    exact hs.listed i x hx

theorem State.SameForm.indexed (h : s.SameForm t) (hs : s.Indexed) : t.Indexed :=
  (h.subs.comp Prod.fst).indexed h.accounts hs

/-- The tree is read from the places of the elements. -/
theorem Table.Alike.rooted (h : Table.Alike Element.place s.elements t.elements) (hs : s.Rooted) : t.Rooted where
  place e x hx := by
    obtain ⟨x', hx', hxx⟩ := h.exists_of_get? hx
    obtain ⟨hparent, hleg, hdepth⟩ : x'.parent = x.parent ∧ x'.leg = x.leg ∧ x'.depth = x.depth := by
      simpa [Element.place] using hxx
    obtain ⟨hp, hd⟩ | ⟨p, y, hp, hy, hd, hl⟩ := hs.place e x' hx'
    · exact .inl ⟨hparent ▸ hp, hdepth ▸ hd⟩
    · obtain ⟨y', hy', hyy⟩ := h.exists_get? hy
      obtain ⟨-, hyleg, hydepth⟩ : y'.parent = y.parent ∧ y'.leg = y.leg ∧ y'.depth = y.depth := by
        simpa [Element.place] using hyy
      exact .inr ⟨p, y', hparent ▸ hp, hy', by omega, by omega⟩
  depth e x hx := by
    obtain ⟨x', hx', hxx⟩ := h.exists_of_get? hx
    have hdepth : x'.depth = x.depth := congrArg (fun p => p.2.2) hxx
    exact hdepth ▸ hs.depth e x' hx'

theorem Tap.boundTo_of_bindings {x y : Tap} (h : x.bindings = y.bindings) (port : Nat) : x.boundTo port = y.boundTo port := by
  have hp := congrArg (·[port - 1]?) h
  simp only [Tap.bindings, List.getElem?_map] at hp
  unfold Tap.boundTo
  cases hx : x.ports[port - 1]? <;> cases hy : y.ports[port - 1]? <;> simp_all

theorem State.SameForm.bound (h : s.SameForm t) (hs : s.Bound) : t.Bound where
  subs := h.subs.wf hs.subs
  taps := h.taps.wf hs.taps
  four i x hx := by
    obtain ⟨y, hy, hyx⟩ := h.taps.exists_of_get? hx
    have hlen : y.ports.length = x.ports.length := by simpa [Tap.bindings] using congrArg List.length hyx
    exact hlen ▸ hs.four i y hy
  there i r p hr hp := by
    obtain ⟨x, hx, hxr⟩ := h.subs.exists_of_get? hr
    obtain ⟨h1, h4, y, hy, hb⟩ := hs.there i x p hx ((Prod.mk.inj hxr).2.trans hp)
    obtain ⟨z, hz, hzy⟩ := h.taps.exists_get? hy
    exact ⟨h1, h4, z, hz, (Tap.boundTo_of_bindings hzy p.port).trans hb⟩
  back tap x port i hx h1 h4 hb := by
    obtain ⟨y, hy, hyx⟩ := h.taps.exists_of_get? hx
    obtain ⟨r, hr, hp⟩ := hs.back tap y port i hy h1 h4 ((Tap.boundTo_of_bindings hyx port).trans hb)
    obtain ⟨z, hz, hzr⟩ := h.subs.exists_get? hr
    exact ⟨z, hz, (Prod.mk.inj hzr).2.trans hp⟩

/-! ## Every step keeps what every reshaping keeps -/

/-- An invariant that the form settles, and that every reshaping keeps, every step keeps. -/
theorem step_keeps_of_reshaping {P : State → Prop} (hform : ∀ s t, s.SameForm t → P s → P t) (hshape : ∀ s t, s.Reshaping t → P s → P t)
    (hs : P s) (h : step s = .next t) : P t := by
  refine step_keeps (fun s _ => hform s _ .rest) (fun s => hform s _ (tick_sameForm s)) (fun c s t hs h => ?_) hs h
  obtain hst | ⟨u, hu, port, rfl⟩ := exec_sameForm_or_reshaping h
  · exact hform s t hst hs
  · exact hform u _ .rest (hshape s u hu hs)

/-- R178: what Clear Store raises anew, and the mode it sets, leave the form of the emptied part. -/
theorem clearStore_sameForm (s : State) : s.emptied.SameForm s.clearStore :=
  (foldl_sameForm (fun u c => raiseCondition_sameForm u ..) _ s.emptied).trans .rest

theorem endStanding_sameForm (s : State) (input : Nat) (x : Input) : s.SameForm (s.endStanding input x) := by
  unfold State.endStanding
  split
  · exact (endAlarm_sameForm ..).after (updInput_sameForm fun _ => rfl)
  · exact .refl s

theorem dropOtherType_sameForm (s : State) (input : Nat) (type : AlarmType) : s.SameForm (s.dropOtherType input type) := by
  unfold State.dropOtherType
  split
  · exact .refl s
  · split
    · exact .refl s
    · exact .restWith rfl (AlarmUnit.remove_alike ..) rfl rfl

/-! ## The form -/

theorem updInput_formed (h : s.Formed) (i : Nat) (f : Input → Input) : (s.updInput i f).Formed :=
  { h with inputs := by simp [h.inputs] }

theorem leaveCarrier_formed (h : s.Formed) (input : Nat) (x : Input) : (s.leaveCarrier input x).Formed := by
  unfold State.leaveCarrier
  split
  · exact (refreshDark_sameForm ..).formed (updInput_formed h ..)
  · exact h

theorem applyConfig_formed (h : s.Formed) (input : Nat) (x : Input) (c : Role × Nat × Sense × Nat) : (s.applyConfig input x c).Formed := by
  unfold State.applyConfig
  dsimp only
  split
  · exact updInput_formed h ..
  · exact (refreshDark_sameForm ..).formed (updInput_formed h ..)
  · split
    · exact (raiseCondition_sameForm ..).formed (updInput_formed (updInput_formed h ..) ..)
    · exact updInput_formed h ..

theorem configure_formed (h : s.Formed) (input : Nat) (x : Input) (c : Role × Nat × Sense × Nat) : (s.configure input x c).Formed := by
  have hended := (endStanding_sameForm s input x).formed h
  refine applyConfig_formed (leaveCarrier_formed ?_ ..) ..
  split
  · exact (dropOtherType_sameForm ..).formed hended
  · exact hended

theorem updSub_formed (h : s.Formed) (i : Nat) (f : Subscriber → Subscriber) : (s.updSub i f).Formed := by
  unfold State.updSub
  exact { h with subs := Table.wf_modify h.subs i f }

theorem updTap_formed (h : s.Formed) (i : Nat) (f : Tap → Tap) : (s.updTap i f).Formed := by
  unfold State.updTap
  exact { h with taps := Table.wf_modify h.taps i f }

theorem bindPort_formed (h : s.Formed) (i : Nat) (p : PortRef) : (s.bindPort i p).Formed := updTap_formed (updSub_formed h ..) ..

theorem releasePort_formed (h : s.Formed) (i : Nat) (p : PortRef) : (s.releasePort i p).Formed := updTap_formed (updSub_formed h ..) ..

theorem unbindRecord_formed (h : s.Formed) (i : Nat) (p : Option PortRef) : (s.unbindRecord i p).Formed := by
  unfold State.unbindRecord
  split
  · exact h
  · exact (need_sameForm ..).formed (releasePort_formed h ..)

theorem emptied_formed (h : s.Formed) : s.emptied.Formed where
  subs := rfl
  accounts := rfl
  events := rfl
  taps := rfl
  elements := rfl
  alarms := rfl
  slots := by simp [State.emptied, h.slots]
  tiers := by simp [State.emptied, h.tiers]
  legs := by simp [State.emptied, h.legs]
  inputs := h.inputs
  levels := h.levels

theorem hardReset_formed (h : s.Formed) (b : Bool) : (s.hardReset b).Formed where
  subs := rfl
  accounts := rfl
  events := rfl
  taps := rfl
  elements := rfl
  alarms := rfl
  slots := by simp [State.hardReset, State.reset]
  tiers := by simp [State.hardReset, State.reset]
  legs := by simp [State.hardReset, State.reset]
  inputs := by simp [State.hardReset, h.inputs]
  levels := rfl

theorem retireTap_formed (h : s.Formed) (tap : Nat) (x : Tap) : (s.retireTap tap x).Formed := by
  have hleft : (s.leaveQueues tap).Formed := { h with }
  have hended : (if x.state = .silent then (s.leaveQueues tap).endAlarm .tapSilent tap else s.leaveQueues tap).Formed := by
    split
    · exact (endAlarm_sameForm ..).formed hleft
    · exact hleft
  exact { hended with taps := Table.wf_erase hended.taps _ }

theorem State.Reshaping.formed (h : s.Reshaping t) (hs : s.Formed) : t.Formed := by
  cases h with
  | hardReset b => exact hardReset_formed hs b
  | clearStore => exact (clearStore_sameForm s).formed (emptied_formed hs)
  | enrol f =>
    have hset : State.Formed { s with subs := s.subs.set s.subs.lowestFree f.record, accounts := s.accounts.set f.account s.subs.lowestFree } :=
      { hs with subs := Table.wf_set hs.subs _ _, accounts := Table.wf_set hs.accounts _ _ }
    unfold State.enrolAt
    dsimp only
    split
    · exact hset
    · exact (need_sameForm ..).formed (bindPort_formed hset ..)
  | retireSubscriber account i r =>
    have hu := unbindRecord_formed hs i r.tapPort
    exact { hu with
      subs := Table.wf_erase hu.subs _
      accounts := Table.wf_erase hu.accounts _
      events := Table.wf_mapAll hu.events fun _ e => e.forget i }
  | bind i r p => exact (need_sameForm ..).formed (bindPort_formed hs i p)
  | move i r old p => exact (moveNeeds_sameForm ..).formed (bindPort_formed (releasePort_formed hs i old) i p)
  | unbind i r p => exact (need_sameForm ..).formed (releasePort_formed hs i p)
  | enrolTap => exact { hs with taps := Table.wf_set hs.taps _ _ }
  | retireTap tap x => exact retireTap_formed hs tap x
  | enrolRoot => exact { hs with elements := Table.wf_set hs.elements _ _ }
  | enrolChild => exact { hs with elements := Table.wf_set hs.elements _ _ }
  | retireElement e x =>
    have he := (endConditions_sameForm s e x).formed hs
    exact { he with elements := Table.wf_erase he.elements _, legs := (List.length_map _).trans he.legs }
  | defineEvent => exact { hs with events := Table.wf_set hs.events _ _ }
  | removeEvent => exact { hs with events := Table.wf_erase hs.events _ }
  | configure input x c => exact configure_formed hs input x c

theorem step_formed (hs : s.Formed) (h : step s = .next t) : t.Formed :=
  step_keeps_of_reshaping (fun _ _ => State.SameForm.formed) (fun _ _ => State.Reshaping.formed) hs h

/-! ## The tree -/

theorem emptied_rooted (s : State) : s.emptied.Rooted := ⟨nofun, nofun⟩

/-- R89, R90: a new element stands in the tree where its parent, if it has one, is in the table and less than 16 deep. -/
theorem enrolled_rooted (hform : s.elements.wf = true) (hs : s.Rooted) {x : Element} (hdepth : x.depth ≤ 16)
    (hx : (x.parent = none ∧ x.depth = 1) ∨
      ∃ p y, x.parent = some p ∧ s.elements.get? p = some y ∧ x.depth = y.depth + 1 ∧ x.leg = y.leg) :
    State.Rooted { s with elements := s.elements.set s.elements.lowestFree x } := by
  have hfree := Table.get?_lowestFree hform
  have hkept {e : Nat} {y : Element} (hy : s.elements.get? e = some y) :
      Table.get? e (s.elements.set s.elements.lowestFree x) = some y := by
    rw [Table.get?_set, if_neg, hy]
    rintro rfl
    simp [hfree] at hy
  have hcases {e : Nat} {y : Element} (hy : Table.get? e (s.elements.set s.elements.lowestFree x) = some y) :
      y = x ∨ s.elements.get? e = some y := by
    rw [Table.get?_set] at hy
    split at hy
    · exact .inl (Option.some.inj hy).symm
    · exact .inr hy
  constructor
  · intro e y hy
    have hplace : (y.parent = none ∧ y.depth = 1) ∨
        ∃ p z, y.parent = some p ∧ s.elements.get? p = some z ∧ y.depth = z.depth + 1 ∧ y.leg = z.leg := by
      obtain rfl | hy := hcases hy
      · exact hx
      · exact hs.place e y hy
    exact hplace.imp id fun ⟨p, z, hp, hz, hrest⟩ => ⟨p, z, hp, hkept hz, hrest⟩
  · intro e y hy
    obtain rfl | hy := hcases hy
    · exact hdepth
    · exact hs.depth e y hy

/-- R91: an element without a child leaves the tree whole. -/
theorem retired_rooted (hs : s.Rooted) {e : Nat} (hchild : ∀ q ∈ s.elements, q.2.parent ≠ some e) :
    State.Rooted { s with elements := s.elements.erase e } := by
  have hkept {k : Nat} (hk : k ≠ e) : Table.get? k (s.elements.erase e) = s.elements.get? k := by
    rw [Table.get?_erase, if_neg (Ne.symm hk)]
  have hthere {k : Nat} {y : Element} (hy : Table.get? k (s.elements.erase e) = some y) : s.elements.get? k = some y := by
    rw [Table.get?_erase] at hy
    split at hy
    · cases hy
    · exact hy
  refine ⟨fun k y hy => ?_, fun k y hy => hs.depth k y (hthere hy)⟩
  refine (hs.place k y (hthere hy)).imp id fun ⟨p, z, hp, hz, hrest⟩ => ⟨p, z, hp, ?_, hrest⟩
  rw [hkept]
  · exact hz
  · rintro rfl
    exact hchild _ (Table.mem_of_get? (hthere hy)) hp

/-- The tree is read from the elements alone. -/
theorem State.Rooted.congr (hs : s.Rooted) (h : t.elements = s.elements := by simp) : t.Rooted :=
  Table.Alike.rooted (.of_eq h) hs

theorem State.Reshaping.rooted (h : s.Reshaping t) (hform : s.Formed) (hs : s.Rooted) : t.Rooted := by
  cases h with
  | hardReset b => exact ⟨nofun, nofun⟩
  | clearStore => exact (clearStore_sameForm s).elements.rooted (emptied_rooted s)
  | enrolRoot mode address leg => exact enrolled_rooted hform.elements hs (by simp [newElement]) (.inl ⟨rfl, rfl⟩)
  | enrolChild mode address leg parent p hp hdepth =>
    have hle := hs.depth parent p hp
    exact enrolled_rooted hform.elements hs (by simp [newElement]; omega) (.inr ⟨parent, p, rfl, hp, rfl, rfl⟩)
  | retireElement e x _ hchild =>
    have hended : State.Rooted { s with elements := s.elements.erase e } := retired_rooted hs hchild
    exact hended.congr (by simp [State.retireElement, State.endConditions])
  | enrol => exact hs.congr (by simp only [State.enrolAt]; split <;> simp [State.bindPort])
  | retireSubscriber => exact hs.congr (by simp [State.retireRecord])
  | bind | move | unbind => exact hs.congr (by simp [State.bindPort, State.releasePort])
  | retireTap => exact hs.congr (by simp only [State.retireTap]; split <;> simp)
  | enrolTap | defineEvent | removeEvent | configure => exact hs.congr

theorem step_formed_rooted (hform : s.Formed) (hs : s.Rooted) (h : step s = .next t) : t.Formed ∧ t.Rooted :=
  step_keeps_of_reshaping (P := fun s => s.Formed ∧ s.Rooted) (fun _ _ h hs => ⟨h.formed hs.1, h.elements.rooted hs.2⟩)
    (fun _ _ h hs => ⟨h.formed hs.1, h.rooted hs.1 hs.2⟩) ⟨hform, hs⟩ h

/-! ## The senses of the CARRIER inputs -/

theorem State.Sensed.congr (hs : s.Sensed) (h : t.inputs = s.inputs := by simp) : t.Sensed := by
  intro x hx
  exact hs x (h ▸ hx)

/-- A change of one input keeps the senses where the changed input has one if it is a CARRIER. -/
theorem updInput_sensed (hs : s.Sensed) {i : Nat} {f : Input → Input}
    (h : ∀ x, s.inputs[i]? = some x → (f x).role = .carrier → (f x).sense = .levelHigh ∨ (f x).sense = .levelLow) :
    (s.updInput i f).Sensed := by
  intro y hy hrole
  obtain ⟨j, hj⟩ := List.mem_iff_getElem?.mp hy
  simp only [State.updInput, List.getElem?_modify, Option.map_eq_map, Option.map_eq_some_iff] at hj
  obtain ⟨x, hx, rfl⟩ := hj
  split at hrole
  next hij =>
    subst hij
    simpa using h x hx hrole
  next hij => simpa [hij] using hs x (List.mem_of_getElem? hx) hrole

theorem Sense.isLevel_iff (x : Sense) : x.isLevel = true ↔ x = .levelHigh ∨ x = .levelLow := by
  cases x <;> simp [isLevel, sensed]

theorem configure_sensed (hs : s.Sensed) (input : Nat) (x : Input) {c : Role × Nat × Sense × Nat}
    (hc : c.1 = .carrier → c.2.2.1.isLevel = true) : (s.configure input x c).Sensed := by
  have hleft {u : State} (hu : u.Sensed) : (u.leaveCarrier input x).Sensed := by
    unfold State.leaveCarrier
    split
    · exact (refreshDark_sameForm ..).sensed (updInput_sensed hu fun _ _ h => nomatch h)
    · exact hu
  have happlied {u : State} (hu : u.Sensed) : (u.applyConfig input x c).Sensed := by
    have hstored := updInput_sensed (i := input) hu (f := fun x =>
      { x with role := c.1, slot := c.2.1, sense := c.2.2.1, debounce := c.2.2.2, timer := x.timer.map fun _ => 0 })
      fun _ _ h => (Sense.isLevel_iff _).mp (hc h)
    unfold State.applyConfig
    dsimp only
    split
    · exact hstored
    · exact (refreshDark_sameForm ..).sensed hstored
    · split
      · exact State.SameForm.sensed ((raiseCondition_sameForm ..).after (updInput_sameForm fun _ => rfl)) hstored
      · exact hstored
  refine happlied (hleft ?_)
  have hended := (endStanding_sameForm s input x).sensed hs
  split
  · exact (dropOtherType_sameForm ..).sensed hended
  · exact hended

theorem State.Reshaping.sensed (h : s.Reshaping t) (hs : s.Sensed) : t.Sensed := by
  cases h with
  | hardReset b =>
    intro y hy hrole
    obtain ⟨x, _, rfl⟩ := List.mem_map.mp hy
    cases hrole
  | clearStore =>
    have hemptied : s.emptied.Sensed := hs
    exact (clearStore_sameForm s).sensed hemptied
  | configure input x c _ hc => exact configure_sensed hs input x hc
  | enrol => exact hs.congr (by simp only [State.enrolAt]; split <;> simp [State.bindPort])
  | retireSubscriber => exact hs.congr (by simp [State.retireRecord])
  | bind | move | unbind => exact hs.congr (by simp [State.bindPort, State.releasePort])
  | retireTap => exact hs.congr (by simp only [State.retireTap]; split <;> simp)
  | retireElement => exact hs.congr (by simp [State.retireElement, State.endConditions])
  | enrolTap | enrolRoot | enrolChild | defineEvent | removeEvent => exact hs.congr

theorem step_sensed (hs : s.Sensed) (h : step s = .next t) : t.Sensed :=
  step_keeps_of_reshaping (fun _ _ => State.SameForm.sensed) (fun _ _ => State.Reshaping.sensed) hs h

/-- Settles O4. -/
theorem stepKeepsTheForm : Obligations.StepKeepsTheForm :=
  ⟨fun _ _ => step_formed, fun _ _ hform hs h => (step_formed_rooted hform hs h).2, fun _ _ => step_sensed⟩

end Sys2Proof.Machine
end

section
/-! PROOFS. O5, O7 and O8: every step keeps the account index, the bindings and each tap in one place. -/

namespace Sys2Proof.Machine

variable {s t : State} {i tap port : Nat} {r : Subscriber} {p : PortRef} {x : Tap}

theorem State.bindPort_subs (s : State) (i : Nat) (p : PortRef) :
    (s.bindPort i p).subs = s.subs.modify i fun r => { r with tapPort := some p } := rfl

theorem State.bindPort_taps (s : State) (i : Nat) (p : PortRef) :
    (s.bindPort i p).taps = s.taps.modify p.tap fun t => t.withBound p.port (some i) := rfl

theorem State.releasePort_subs (s : State) (i : Nat) (p : PortRef) :
    (s.releasePort i p).subs = s.subs.modify i fun r => { r with tapPort := none } := rfl

theorem State.releasePort_taps (s : State) (i : Nat) (p : PortRef) :
    (s.releasePort i p).taps = s.taps.modify p.tap fun t => t.withBound p.port none := rfl

theorem State.retireTap_subs (s : State) (tap : Nat) (x : Tap) : (s.retireTap tap x).subs = s.subs := by
  simp only [State.retireTap]
  split <;> simp

theorem State.retireTap_taps (s : State) (tap : Nat) (x : Tap) : (s.retireTap tap x).taps = s.taps.erase tap := by
  simp only [State.retireTap]
  split <;> simp

theorem State.retireElement_subs (s : State) (e : Nat) (x : Element) : (s.retireElement e x).subs = s.subs := by
  simp [State.retireElement, State.endConditions]

theorem State.retireElement_taps (s : State) (e : Nat) (x : Element) : (s.retireElement e x).taps = s.taps := by
  simp [State.retireElement, State.endConditions]

theorem State.retireTap_accounts (s : State) (tap : Nat) (x : Tap) : (s.retireTap tap x).accounts = s.accounts := by
  simp only [State.retireTap]
  split <;> simp

theorem State.retireElement_accounts (s : State) (e : Nat) (x : Element) : (s.retireElement e x).accounts = s.accounts := by
  simp [State.retireElement, State.endConditions]

/-! ## The account index -/

theorem bindPort_accounts_alike (s : State) (i : Nat) (p : PortRef) : Table.Alike Subscriber.account s.subs (s.bindPort i p).subs := by
  rw [s.bindPort_subs]
  exact .modify fun _ _ => rfl

theorem releasePort_accounts_alike (s : State) (i : Nat) (p : PortRef) : Table.Alike Subscriber.account s.subs (s.releasePort i p).subs := by
  rw [s.releasePort_subs]
  exact .modify fun _ _ => rfl

theorem bindPort_indexed (hs : s.Indexed) : (s.bindPort i p).Indexed := (bindPort_accounts_alike s i p).indexed rfl hs

theorem releasePort_indexed (hs : s.Indexed) : (s.releasePort i p).Indexed := (releasePort_accounts_alike s i p).indexed rfl hs

theorem unbindRecord_indexed (hs : s.Indexed) (p : Option PortRef) : (s.unbindRecord i p).Indexed := by
  unfold State.unbindRecord
  split
  · exact hs
  · exact (need_sameForm ..).indexed (releasePort_indexed hs)

/-- R9, R10: a new record at the lowest free index, under an account that is not in the index. -/
theorem enrolled_indexed (hs : s.Indexed) (hnew : s.accounts.get? r.account = none) :
    State.Indexed { s with subs := s.subs.set s.subs.lowestFree r, accounts := s.accounts.set r.account s.subs.lowestFree } where
  subs := Table.wf_set hs.subs _ _
  found account j hj := by
    rw [Table.get?_set] at hj
    simp only [Table.get?_set]
    split at hj
    next ha => exact ⟨r, if_pos (Option.some.inj hj), ha⟩
    next ha =>
      obtain ⟨x, hx, hxa⟩ := hs.found account j hj
      refine ⟨x, ?_, hxa⟩
      rw [if_neg, hx]
      rintro rfl
      simp [Table.get?_lowestFree hs.subs] at hx
  listed j x hx := by
    rw [Table.get?_set] at hx
    simp only [Table.get?_set]
    split at hx
    next hj =>
      obtain rfl := Option.some.inj hx
      simp [hj]
    next hj =>
      have hlisted := hs.listed j x hx
      rw [if_neg, hlisted]
      intro ha
      simp [← ha, hnew] at hlisted

/-- R19: the record of an account leaves the table and the index together. -/
theorem erased_indexed (hs : s.Indexed) {account : Nat} (hi : s.accounts.get? account = some i) (ht : t.subs = s.subs.erase i)
    (ha : t.accounts = s.accounts.erase account) : t.Indexed where
  subs := ht ▸ Table.wf_erase hs.subs _
  found a j hj := by
    rw [ha, Table.get?_erase] at hj
    split at hj
    · cases hj
    next hne =>
      obtain ⟨x, hx, hxa⟩ := hs.found a j hj
      refine ⟨x, ?_, hxa⟩
      rw [ht, Table.get?_erase, if_neg, hx]
      rintro rfl
      obtain ⟨y, hy, hya⟩ := hs.found account i hi
      exact hne (by simp_all)
  listed j x hx := by
    rw [ht, Table.get?_erase] at hx
    split at hx
    · cases hx
    next hne =>
      rw [ha, Table.get?_erase, if_neg, hs.listed j x hx]
      rintro rfl
      exact hne (Option.some.inj (hi.symm.trans (hs.listed j x hx)))

theorem indexed_of_empty (hsubs : s.subs = []) (haccounts : s.accounts = []) : s.Indexed := by
  constructor <;> simp [hsubs, haccounts, Table.wf]

theorem State.Indexed.congr (hs : s.Indexed) (h : t.subs = s.subs := by simp) (ha : t.accounts = s.accounts := by simp) : t.Indexed :=
  Table.Alike.indexed (.of_eq h) ha hs

theorem State.Reshaping.indexed (h : s.Reshaping t) (hs : s.Indexed) : t.Indexed := by
  cases h with
  | hardReset b => exact indexed_of_empty rfl rfl
  | clearStore => exact (clearStore_sameForm s).indexed (indexed_of_empty rfl rfl)
  | enrol f _ hnew =>
    have hset := enrolled_indexed (r := f.record) hs hnew
    unfold State.enrolAt
    dsimp only
    split
    · exact hset
    · exact (need_sameForm ..).indexed (bindPort_indexed hset)
  | retireSubscriber account i r hi =>
    have hu := unbindRecord_indexed (i := i) hs r.tapPort
    exact erased_indexed hu (by simpa using hi) rfl rfl
  | bind => exact (need_sameForm ..).indexed (bindPort_indexed hs)
  | move => exact (moveNeeds_sameForm ..).indexed (bindPort_indexed (releasePort_indexed hs))
  | unbind => exact (need_sameForm ..).indexed (releasePort_indexed hs)
  | retireTap tap x => exact hs.congr (s.retireTap_subs tap x) (s.retireTap_accounts tap x)
  | retireElement e x => exact hs.congr (s.retireElement_subs e x) (s.retireElement_accounts e x)
  | enrolTap | enrolRoot | enrolChild | defineEvent | removeEvent | configure => exact hs.congr

/-- Settles O5. -/
theorem stepKeepsTheAccountIndex : Obligations.StepKeepsTheAccountIndex := fun _ _ =>
  step_keeps_of_reshaping (fun _ _ => State.SameForm.indexed) (fun _ _ => State.Reshaping.indexed)

/-! ## The bindings -/

theorem portOk_iff : portOk port = true ↔ 1 ≤ port ∧ port ≤ 4 := by simp [portOk]

/-- R21: what is bound to a port after the binding of one is written. -/
theorem Tap.boundTo_withBound (hx : x.ports.length = 4) {port' : Nat} (h : 1 ≤ port ∧ port ≤ 4) (h' : 1 ≤ port') (b : Option Nat) :
    (x.withBound port b).boundTo port' = if port = port' then b else x.boundTo port' := by
  unfold Tap.boundTo Tap.withBound
  rw [List.getElem?_modify]
  by_cases he : port = port'
  · subst he
    have hlt : port - 1 < x.ports.length := by omega
    simp [hlt]
  · have hne : port - 1 ≠ port' - 1 := by omega
    simp [hne, he]

theorem Tap.withBound_ports_length (x : Tap) (port : Nat) (b : Option Nat) : (x.withBound port b).ports.length = x.ports.length := by
  simp [withBound]

theorem bound_of_empty (hsubs : s.subs = []) (htaps : s.taps = []) : s.Bound := by
  constructor <;> simp [hsubs, htaps, Table.wf]

theorem State.Bound.congr (hs : s.Bound) (h : t.subs = s.subs := by simp) (ht : t.taps = s.taps := by simp) : t.Bound := by
  obtain ⟨subs, taps, four, there, back⟩ := hs
  constructor <;> simpa only [h, ht]

/-- R21: both halves written together. -/
theorem bindPort_bound (hs : s.Bound) (hr : s.subs.get? i = some r) (hnone : r.tapPort = none) (hx : s.taps.get? p.tap = some x)
    (hfree : x.boundTo p.port = none) (hok : portOk p.port = true) : (s.bindPort i p).Bound := by
  have hp := portOk_iff.mp hok
  have hlen := hs.four p.tap x hx
  constructor
  case subs => exact (bindPort_accounts_alike s i p).wf hs.subs
  case taps => exact s.bindPort_taps i p ▸ Table.wf_modify hs.taps _ _
  case four =>
    intro j y hy
    rw [s.bindPort_taps, Table.get?_modify] at hy
    split at hy
    · obtain ⟨z, hz, rfl⟩ := Option.map_eq_some_iff.mp hy
      exact (z.withBound_ports_length ..).trans (hs.four j z hz)
    · exact hs.four j y hy
  case there =>
    intro j r' q hr' hq
    rw [s.bindPort_subs, Table.get?_modify] at hr'
    rw [s.bindPort_taps]
    simp only [Table.get?_modify]
    split at hr'
    next hij =>
      obtain ⟨z, hz, rfl⟩ := Option.map_eq_some_iff.mp hr'
      obtain rfl : p = q := Option.some.inj hq
      refine ⟨hp.1, hp.2, x.withBound p.port (some i), by simp [hx], ?_⟩
      simp [Tap.boundTo_withBound hlen hp hp.1, hij]
    next hij =>
      obtain ⟨h1, h4, y, hy, hb⟩ := hs.there j r' q hr' hq
      refine ⟨h1, h4, ?_⟩
      split
      next ht =>
        obtain rfl : x = y := Option.some.inj (hx.symm.trans (ht ▸ hy))
        refine ⟨x.withBound p.port (some i), by simp [hy], ?_⟩
        rw [Tap.boundTo_withBound hlen hp h1, if_neg, hb]
        intro he
        simp [← he, hfree] at hb
      next => exact ⟨y, hy, hb⟩
  case back =>
    intro tap y port j hy h1 h4 hb
    have hback {z : Tap} (hz : s.taps.get? tap = some z) (hb : z.boundTo port = some j) :
        ∃ r, (s.bindPort i p).subs.get? j = some r ∧ r.tapPort = some ⟨tap, port⟩ := by
      obtain ⟨r', hr', hp'⟩ := hs.back tap z port j hz h1 h4 hb
      refine ⟨r', ?_, hp'⟩
      rw [s.bindPort_subs, Table.get?_modify, if_neg, hr']
      rintro rfl
      simp_all
    rw [s.bindPort_taps, Table.get?_modify] at hy
    split at hy
    next ht =>
      subst ht
      rw [hx] at hy
      obtain rfl := Option.some.inj hy
      rw [Tap.boundTo_withBound hlen hp h1] at hb
      split at hb
      next he =>
        obtain rfl := Option.some.inj hb
        exact ⟨{ r with tapPort := some p }, by simp [s.bindPort_subs, hr], by simp [← he]⟩
      next => exact hback hx hb
    next => exact hback hy hb

/-- R23: both halves cleared together. -/
theorem releasePort_bound (hs : s.Bound) (hr : s.subs.get? i = some r) (hport : r.tapPort = some p) : (s.releasePort i p).Bound := by
  obtain ⟨hp1, hp4, x, hx, hxb⟩ := hs.there i r p hr hport
  have hlen := hs.four p.tap x hx
  constructor
  case subs => exact (releasePort_accounts_alike s i p).wf hs.subs
  case taps => exact s.releasePort_taps i p ▸ Table.wf_modify hs.taps _ _
  case four =>
    intro j y hy
    rw [s.releasePort_taps, Table.get?_modify] at hy
    split at hy
    · obtain ⟨z, hz, rfl⟩ := Option.map_eq_some_iff.mp hy
      exact (z.withBound_ports_length ..).trans (hs.four j z hz)
    · exact hs.four j y hy
  case there =>
    intro j r' q hr' hq
    rw [s.releasePort_subs, Table.get?_modify] at hr'
    rw [s.releasePort_taps]
    simp only [Table.get?_modify]
    split at hr'
    next =>
      obtain ⟨z, hz, rfl⟩ := Option.map_eq_some_iff.mp hr'
      cases hq
    next hij =>
      obtain ⟨h1, h4, y, hy, hb⟩ := hs.there j r' q hr' hq
      refine ⟨h1, h4, ?_⟩
      split
      next ht =>
        obtain rfl : x = y := Option.some.inj (hx.symm.trans (ht ▸ hy))
        refine ⟨x.withBound p.port none, by simp [hy], ?_⟩
        rw [Tap.boundTo_withBound hlen ⟨hp1, hp4⟩ h1, if_neg, hb]
        intro he
        exact hij (Option.some.inj (hxb.symm.trans (he ▸ hb)))
      next => exact ⟨y, hy, hb⟩
  case back =>
    intro tap y port j hy h1 h4 hb
    have hback {z : Tap} (hz : s.taps.get? tap = some z) (hb : z.boundTo port = some j) (hne : p ≠ ⟨tap, port⟩) :
        ∃ r, (s.releasePort i p).subs.get? j = some r ∧ r.tapPort = some ⟨tap, port⟩ := by
      obtain ⟨r', hr', hp'⟩ := hs.back tap z port j hz h1 h4 hb
      refine ⟨r', ?_, hp'⟩
      rw [s.releasePort_subs, Table.get?_modify, if_neg, hr']
      rintro rfl
      obtain rfl : r = r' := Option.some.inj (hr.symm.trans hr')
      exact hne (Option.some.inj (hport.symm.trans hp'))
    rw [s.releasePort_taps, Table.get?_modify] at hy
    split at hy
    next ht =>
      subst ht
      rw [hx] at hy
      obtain rfl := Option.some.inj hy
      rw [Tap.boundTo_withBound hlen ⟨hp1, hp4⟩ h1] at hb
      split at hb
      next => cases hb
      next he => exact hback hx hb (by rintro h; exact he (congrArg PortRef.port h))
    next ht => exact hback hy hb (by rintro h; exact ht (congrArg PortRef.tap h))

/-- R23: after the release of a port, what is bound to a free port is still nothing. -/
theorem releasePort_free (hs : s.Bound) (hr : s.subs.get? i = some r) {old : PortRef} (hold : r.tapPort = some old)
    (hx : s.taps.get? p.tap = some x) (hfree : x.boundTo p.port = none) (hok : portOk p.port = true) :
    ∃ y, (s.releasePort i old).taps.get? p.tap = some y ∧ y.boundTo p.port = none := by
  obtain ⟨h1, h4, -⟩ := hs.there i r old hr hold
  rw [s.releasePort_taps, Table.get?_modify]
  split
  · refine ⟨x.withBound old.port none, by simp [hx], ?_⟩
    rw [Tap.boundTo_withBound (hs.four p.tap x hx) ⟨h1, h4⟩ (portOk_iff.mp hok).1]
    split
    · rfl
    · exact hfree
  · exact ⟨x, hx, hfree⟩

/-- R10: a new record without a binding, at the lowest free index. -/
theorem enrolled_bound (hs : s.Bound) (hnone : r.tapPort = none) {account : Nat} :
    State.Bound { s with subs := s.subs.set s.subs.lowestFree r, accounts := s.accounts.set account s.subs.lowestFree } where
  subs := Table.wf_set hs.subs _ _
  taps := hs.taps
  four := hs.four
  there j r' q hr' hq := by
    rw [Table.get?_set] at hr'
    split at hr'
    · obtain rfl := Option.some.inj hr'
      simp [hnone] at hq
    · exact hs.there j r' q hr' hq
  back tap y port j hy h1 h4 hb := by
    obtain ⟨r', hr', hp'⟩ := hs.back tap y port j hy h1 h4 hb
    refine ⟨r', ?_, hp'⟩
    rw [Table.get?_set, if_neg, hr']
    rintro rfl
    simp [Table.get?_lowestFree hs.subs] at hr'

/-- R19: a record that is not bound leaves the table. -/
theorem erased_bound (hs : s.Bound) (hnone : ∀ r, s.subs.get? i = some r → r.tapPort = none) (ht : t.subs = s.subs.erase i)
    (htaps : t.taps = s.taps) : t.Bound where
  subs := ht ▸ Table.wf_erase hs.subs _
  taps := htaps ▸ hs.taps
  four := htaps ▸ hs.four
  there j r' q hr' hq := by
    rw [ht, Table.get?_erase] at hr'
    split at hr'
    · cases hr'
    · exact htaps ▸ hs.there j r' q hr' hq
  back tap y port j hy h1 h4 hb := by
    obtain ⟨r', hr', hp'⟩ := hs.back tap y port j (htaps ▸ hy) h1 h4 hb
    refine ⟨r', ?_, hp'⟩
    rw [ht, Table.get?_erase, if_neg, hr']
    rintro rfl
    simp [hnone r' hr'] at hp'

/-- R44: a new tap at the lowest free index. -/
theorem enrolTap_bound (hs : s.Bound) (address feeding : Nat) :
    State.Bound { s with taps := s.taps.set s.taps.lowestFree (newTap address feeding) } where
  subs := hs.subs
  taps := Table.wf_set hs.taps _ _
  four j y hy := by
    rw [Table.get?_set] at hy
    split at hy
    · obtain rfl := Option.some.inj hy
      rfl
    · exact hs.four j y hy
  there j r q hr hq := by
    obtain ⟨h1, h4, y, hy, hb⟩ := hs.there j r q hr hq
    refine ⟨h1, h4, y, ?_, hb⟩
    rw [Table.get?_set, if_neg, hy]
    intro he
    simp [← he, Table.get?_lowestFree hs.taps] at hy
  back tap y port j hy h1 h4 hb := by
    rw [Table.get?_set] at hy
    split at hy
    · obtain rfl := Option.some.inj hy
      interval_cases port <;> cases hb
    · exact hs.back tap y port j hy h1 h4 hb

/-- R45: a tap that no household is bound to leaves the table. -/
theorem retireTap_bound (hs : s.Bound) (hx : s.taps.get? tap = some x) (hfree : ∀ q ∈ x.ports, q.subscriber = none)
    (ht : t.taps = s.taps.erase tap) (hsubs : t.subs = s.subs) : t.Bound where
  subs := hsubs ▸ hs.subs
  taps := ht ▸ Table.wf_erase hs.taps _
  four j y hy := by
    rw [ht, Table.get?_erase] at hy
    split at hy
    · cases hy
    · exact hs.four j y hy
  there j r q hr hq := by
    obtain ⟨h1, h4, y, hy, hb⟩ := hs.there j r q (hsubs ▸ hr) hq
    refine ⟨h1, h4, y, ?_, hb⟩
    rw [ht, Table.get?_erase, if_neg, hy]
    rintro rfl
    obtain rfl : x = y := Option.some.inj (hx.symm.trans hy)
    unfold Tap.boundTo at hb
    split at hb
    · cases hb
    next q' hq' => simp [hfree q' (List.mem_of_getElem? hq')] at hb
  back tap' y port j hy h1 h4 hb := by
    rw [ht, Table.get?_erase] at hy
    split at hy
    · cases hy
    · exact hsubs ▸ hs.back tap' y port j hy h1 h4 hb

/-- The tap port of a record that has been released is absent. -/
theorem unbindRecord_tapPort (hr : s.subs.get? i = some r) {r' : Subscriber} (hr' : (s.unbindRecord i r.tapPort).subs.get? i = some r') :
    r'.tapPort = none := by
  unfold State.unbindRecord at hr'
  split at hr'
  next hp =>
    obtain rfl : r = r' := Option.some.inj (hr.symm.trans hr')
    exact hp
  next q hp =>
    simp only [State.need_frame, s.releasePort_subs, Table.get?_modify_self, hr, Option.map_some, Option.some.injEq] at hr'
    simp [← hr']

/-- R9, tests 5 and 6. -/
theorem tap_of_tapPortTest (h : s.tapPortTest (some p) = none) : ∃ x, s.taps.get? p.tap = some x ∧ x.boundTo p.port = none := by
  simp only [State.tapPortTest] at h
  split at h
  · cases h
  next x hx =>
    split at h
    · cases h
    next hfree => exact ⟨x, hx, by simpa using hfree⟩

/-- R9, test 1: a tap port given has a port of 1 to 4. -/
theorem EnrolFields.portOk_of_inRange {f : EnrolFields} (h : f.inRange = true) (hp : f.tapPort = some p) : portOk p.port = true := by
  unfold EnrolFields.tapPort at hp
  split at hp
  · cases hp
  next hne =>
    obtain rfl := Option.some.inj hp
    simp_all [EnrolFields.inRange]

theorem State.Reshaping.bound (h : s.Reshaping t) (hs : s.Bound) : t.Bound := by
  cases h with
  | hardReset b => exact bound_of_empty rfl rfl
  | clearStore => exact (clearStore_sameForm s).bound (bound_of_empty rfl rfl)
  | enrol f hrange _ htap =>
    have hset := enrolled_bound (r := f.record) (account := f.account) hs rfl
    unfold State.enrolAt
    dsimp only
    split
    · exact hset
    next p hp =>
      obtain ⟨x, hx, hfree⟩ := tap_of_tapPortTest (hp ▸ htap)
      exact (need_sameForm ..).bound (bindPort_bound (r := f.record) hset (by simp) rfl hx hfree (EnrolFields.portOk_of_inRange hrange hp))
  | retireSubscriber account i r _ hr =>
    have hu : (s.unbindRecord i r.tapPort).Bound := by
      unfold State.unbindRecord
      split
      · exact hs
      next p hp => exact (need_sameForm ..).bound (releasePort_bound hs hr hp)
    exact erased_bound hu (fun r' hr' => unbindRecord_tapPort hr hr') rfl rfl
  | bind i r p x hok hr hnone hx hfree => exact (need_sameForm ..).bound (bindPort_bound hs hr hnone hx hfree hok)
  | move i r old p x hok hr hold hx hfree =>
    obtain ⟨y, hy, hyfree⟩ := releasePort_free hs hr hold hx hfree hok
    have hfreed : (s.releasePort i old).subs.get? i = some { r with tapPort := none } := by simp [s.releasePort_subs, hr]
    exact (moveNeeds_sameForm ..).bound (bindPort_bound (releasePort_bound hs hr hold) hfreed rfl hy hyfree hok)
  | unbind i r p hr hp => exact (need_sameForm ..).bound (releasePort_bound hs hr hp)
  | enrolTap address feeding => exact enrolTap_bound hs address feeding
  | retireTap tap x hx hfree => exact retireTap_bound hs hx hfree (s.retireTap_taps tap x) (s.retireTap_subs tap x)
  | retireElement e x => exact hs.congr (s.retireElement_subs e x) (s.retireElement_taps e x)
  | enrolRoot | enrolChild | defineEvent | removeEvent | configure => exact hs.congr

/-- Settles O7. -/
theorem stepKeepsTheBindings : Obligations.StepKeepsTheBindings := fun _ _ =>
  step_keeps_of_reshaping (fun _ _ => State.SameForm.bound) (fun _ _ => State.Reshaping.bound)

/-! ## The places of the taps -/

theorem placed_of_empty (htaps : s.taps = []) (hurgent : s.urgent = []) (hbulk : s.bulk = []) (hlegs : ∀ l ∈ s.legs, l.txn = none) :
    s.Placed := by
  have hfly (n : Nat) (l : Leg) (hl : s.legs[n]? = some l) : l.tapInFlight = none := by
    simp [Leg.tapInFlight, hlegs l (List.mem_of_getElem? hl)]
  refine ⟨by simp [htaps, Table.wf], by simp [hurgent], by simp [hbulk], by simp [hurgent], by simp [hurgent, hbulk], ?_, ?_⟩
  · intro n l i q hl hf
    simp [hfly n l hl] at hf
  · intro m n k l i q q' hk hl hf
    simp [hfly m k hk] at hf

/-- A change of what taps are bound to moves none. -/
theorem withBound_placed (hs : s.Placed) {tap : Nat} {g : Tap → Tap} (ht : t.taps = s.taps.modify tap g)
    (hg : ∀ x, (g x).origin = x.origin ∧ (g x).countdown = x.countdown) (hu : t.urgent = s.urgent := by rfl) (hb : t.bulk = s.bulk := by rfl)
    (hl : t.legs = s.legs := by rfl) : t.Placed := by
  refine hs.of_taps (ht ▸ Table.wf_modify hs.taps _ _) (fun j x hx => ?_) hu hb hl
  rw [ht, Table.get?_modify, hx]
  split
  · exact ⟨g x, rfl, (hg x).1, fun h => (hg x).2.trans h⟩
  · exact ⟨x, rfl, rfl, id⟩

theorem bindPort_placed (hs : s.Placed) (i : Nat) (p : PortRef) : (s.bindPort i p).Placed :=
  withBound_placed hs (s.bindPort_taps i p) fun _ => ⟨rfl, rfl⟩

theorem releasePort_placed (hs : s.Placed) (i : Nat) (p : PortRef) : (s.releasePort i p).Placed :=
  withBound_placed hs (s.releasePort_taps i p) fun _ => ⟨rfl, rfl⟩

theorem unbindRecord_placed (hs : s.Placed) (i : Nat) (p : Option PortRef) : (s.unbindRecord i p).Placed := by
  unfold State.unbindRecord
  split
  · exact hs
  · exact (need_sameForm ..).placed (releasePort_placed hs ..)

theorem enrolTap_placed (hs : s.Placed) (x : Tap) : State.Placed { s with taps := s.taps.set s.taps.lowestFree x } := by
  refine hs.of_taps (Table.wf_set hs.taps _ _) (fun j y hy => ⟨y, ?_, rfl, id⟩) rfl rfl rfl
  rw [Table.get?_set, if_neg, hy]
  rintro rfl
  simp [Table.get?_lowestFree hs.taps] at hy

/-- R45: a tap that is not in flight leaves the queues and the table. -/
theorem retireTap_placed (hs : s.Placed) (hx : s.taps.get? tap = some x) (ho : x.origin = none) (ht : t.taps = s.taps.erase tap)
    (hu : t.urgent = (s.leaveQueues tap).urgent) (hb : t.bulk = (s.leaveQueues tap).bulk) (hl : t.legs = s.legs) : t.Placed := by
  have hleft := leaveQueues_placed (tap := tap) hs
  have hget {j : Nat} {y : Tap} (hj : j ≠ tap) (hy : s.taps.get? j = some y) : t.taps.get? j = some y := by
    rw [ht, Table.get?_erase, if_neg (Ne.symm hj), hy]
  have hout := State.membership_eq_none.mp (membership_leaveQueues (s := s) (tap := tap))
  constructor
  case taps => exact ht ▸ Table.wf_erase hs.taps _
  case urgent => exact hu ▸ hleft.urgent
  case bulk => exact hb ▸ hleft.bulk
  case apart => simpa only [hu, hb] using hleft.apart
  case queued =>
    intro j hj
    rw [hu, hb] at hj
    obtain ⟨y, hy, hrest⟩ := hleft.queued j hj
    refine ⟨y, hget ?_ hy, hrest⟩
    rintro rfl
    tauto
  case flying =>
    intro n l j q hn hf
    obtain ⟨y, hy, hyo, hyc⟩ := hs.flying n l j q (hl ▸ hn) hf
    refine ⟨y, hget ?_ hy, hyo, hyc⟩
    rintro rfl
    simp_all
  case single => exact hl ▸ hs.single

theorem State.retireTap_queues (s : State) (tap : Nat) (x : Tap) : (s.retireTap tap x).urgent = (s.leaveQueues tap).urgent ∧
    (s.retireTap tap x).bulk = (s.leaveQueues tap).bulk ∧ (s.retireTap tap x).legs = s.legs := by
  simp only [State.retireTap]
  split <;> simp

theorem Leg.orphaned_tapInFlight (l : Leg) (e : Nat) : (l.orphaned e).tapInFlight = l.tapInFlight := by
  unfold orphaned tapInFlight
  cases h : l.txn with
  | none => rfl
  | some w =>
    obtain ⟨work, address⟩ := w
    cases work <;> rfl

theorem retireElement_placed (hs : s.Placed) (e : Nat) (x : Element) : (s.retireElement e x).Placed := by
  have horphaned : State.Placed { s.endConditions e x with legs := (s.endConditions e x).legs.map fun l => Leg.orphaned l e } :=
    (mapLegs_sameForm fun l => l.orphaned_tapInFlight e).placed ((endConditions_sameForm s e x).placed hs)
  exact horphaned.congr rfl rfl rfl rfl

theorem State.Reshaping.placed (h : s.Reshaping t) (hs : s.Placed) : t.Placed := by
  cases h with
  | hardReset b => exact placed_of_empty rfl rfl rfl fun l hl => List.eq_of_mem_replicate hl ▸ rfl
  | clearStore =>
    refine (clearStore_sameForm s).placed (placed_of_empty rfl rfl rfl fun l hl => ?_)
    obtain ⟨k, _, rfl⟩ := List.mem_map.mp hl
    rfl
  | enrol f =>
    have hset : State.Placed { s with subs := s.subs.set s.subs.lowestFree f.record, accounts := s.accounts.set f.account s.subs.lowestFree } :=
      hs.congr rfl rfl rfl rfl
    unfold State.enrolAt
    dsimp only
    split
    · exact hset
    · exact (need_sameForm ..).placed (bindPort_placed hset ..)
  | retireSubscriber account i r => exact (unbindRecord_placed hs i r.tapPort).congr rfl rfl rfl rfl
  | bind i r p => exact (need_sameForm ..).placed (bindPort_placed hs i p)
  | move i r old p => exact (moveNeeds_sameForm ..).placed (bindPort_placed (releasePort_placed hs i old) i p)
  | unbind i r p => exact (need_sameForm ..).placed (releasePort_placed hs i p)
  | enrolTap address feeding => exact enrolTap_placed hs _
  | retireTap tap x hx _ ho =>
    obtain ⟨hu, hb, hl⟩ := s.retireTap_queues tap x
    exact retireTap_placed hs hx ho (s.retireTap_taps tap x) hu hb hl
  | retireElement e x => exact retireElement_placed hs e x
  | enrolRoot | enrolChild | defineEvent | removeEvent | configure => exact hs.congr (by simp) (by simp) (by simp) (by simp)

/-- Settles O8. -/
theorem stepKeepsTapsInOnePlace : Obligations.StepKeepsTapsInOnePlace := fun _ _ =>
  step_keeps_of_reshaping (fun _ _ => State.SameForm.placed) (fun _ _ => State.Reshaping.placed)

end Sys2Proof.Machine
end

section
/-! PROOFS. What leaves the subscriber records and the minute counter as they were, command by command. -/

namespace Sys2Proof.Machine

variable {s t : State} {c : Instr}

/-! ## Requests keep what their owners keep -/

section Request

variable {P : State → Prop} {n : Nat} {modes : Modes} {body : List Byte} {owner : State → Served}

/-- What does not depend on the port holds after a request where it holds before it and after its owner. -/
theorem request_keeps (hport : ∀ s port, P s → P { s with port := port }) (hs : P s) (ho : modes.allow s.mode = true → P (owner s).1) :
    P (request n modes body owner s) := by
  have htests : P (commonTests n modes body owner s).1 := by
    unfold commonTests
    split
    · exact hs
    · split
      · exact hs
      next hm => exact ho (by simpa using hm)
  unfold request
  split
  · exact hport _ _ hs
  · split
    · exact hport _ _ hs
    · exact hport _ _ (hport _ _ htests)

theorem withAccount_keeps {account : Nat} {rest : Nat → Subscriber → Served} (hs : P s)
    (h : ∀ i r, s.accounts.get? account = some i → s.subs.get? i = some r → P (rest i r).1) : P (s.withAccount account rest).1 := by
  unfold State.withAccount State.findAccount
  split
  · exact hs
  next i r hf =>
    split at hf
    · cases hf
    next hi =>
      split at hf
      · cases hf
      next hr => cases hf; exact h i r hi hr

end Request

/-! ## The records and the minute -/

/-- The commands that write subscriber records. -/
def writesSubs : Instr → Bool
  | .hardReset _ | .clearStore _ | .enrol _ | .nextChangedSubscriber _ | .changeTiers _ | .bind _ | .move _ | .unbind _ | .activate _
  | .suspend _ | .resume _ | .setCeiling _ | .closeSubscriber _ | .retireSubscriber _ | .topUp _ | .postPayment _ | .postAdjustment _
  | .collectStatement _ | .purchase _ | .withdrawPurchase _ | .cancelEvent _ | .meteringVisit | .endWalkVisit _ => true
  | _ => false

/-- The commands that write the minute counter. -/
def writesMinute : Instr → Bool
  | .hardReset _ | .setClock _ | .secondEdge | .referencePulse => true
  | _ => false

/-- The commands that write the port: a hard reset and every select, and the owner's answer. -/
def writesPort : Instr → Bool
  | .hardReset _ | .requestFrameDiscarded _ _ | .partialFrameDiscarded _ | .unknownRequest _ _ | .responseReady | .readSelect _ => true
  | c => (requestRow c).isSome

theorem writesPort_of_request {n : Nat} {modes : Modes} (h : requestRow c = some (n, modes)) : writesPort c = true := by
  cases c <;> cases h <;> rfl

/-- `t` has the records, the minute and the port of `s`, as far as it is to keep them. -/
def State.Keeps (subs minute port : Bool) (s t : State) : Prop :=
  (subs = true → t.subs = s.subs) ∧ (minute = true → t.clock.minute = s.clock.minute) ∧ (port = true → t.port = s.port)

@[simp] theorem keeps_iff {subs minute port : Bool} : State.Keeps subs minute port s t ↔
    (subs = true → t.subs = s.subs) ∧ (minute = true → t.clock.minute = s.clock.minute) ∧ (port = true → t.port = s.port) := Iff.rfl

theorem State.Keeps.refl (subs minute port : Bool) (s : State) : State.Keeps subs minute port s s :=
  ⟨fun _ => rfl, fun _ => rfl, fun _ => rfl⟩

theorem State.Keeps.trans {subs minute port : Bool} {u : State} (h : State.Keeps subs minute port s t)
    (h' : State.Keeps subs minute port t u) : State.Keeps subs minute port s u := by
  obtain ⟨hsubs, hminute, hport⟩ := h
  obtain ⟨hsubs', hminute', hport'⟩ := h'
  exact ⟨fun hs => (hsubs' hs).trans (hsubs hs), fun hm => (hminute' hm).trans (hminute hm), fun hp => (hport' hp).trans (hport hp)⟩

/-- What an owner makes of a request: the fields named are kept, a select is not ignored again, and a refusal changes nothing and has an empty body. -/
def Served.Answers (subs minute : Bool) (s : State) (p : Served) : Prop :=
  State.Keeps subs minute false s p.1 ∧ p.1.port.selectIgnored = s.port.selectIgnored ∧ (p.2.status ≠ .ok → p.1 = s ∧ p.2.body = [])

@[simp] theorem refuse_answers (subs minute : Bool) (s : State) (status : Status) : Served.Answers subs minute s (s.refuse status) :=
  ⟨.refl .., rfl, fun _ => ⟨rfl, rfl⟩⟩

@[simp] theorem served_answers_iff {subs minute : Bool} {body : List Byte} :
    Served.Answers subs minute s (t.served body) ↔
    State.Keeps subs minute false s t ∧ t.port.selectIgnored = s.port.selectIgnored :=
  ⟨fun ⟨hkeeps, hselect, _⟩ => ⟨hkeeps, hselect⟩, fun ⟨hkeeps, hselect⟩ => ⟨hkeeps, hselect, fun hne => absurd rfl hne⟩⟩

theorem withAccount_answers {subs minute : Bool} {account : Nat} {rest : Nat → Subscriber → Served}
    (h : ∀ i r, Served.Answers subs minute s (rest i r)) : Served.Answers subs minute s (s.withAccount account rest) := by
  unfold State.withAccount
  split
  · exact refuse_answers ..
  · exact h _ _

theorem withTap_answers {subs minute : Bool} {tap : Nat} {rest : Tap → Served} (h : ∀ t, Served.Answers subs minute s (rest t)) :
    Served.Answers subs minute s (s.withTap tap rest) := by
  unfold State.withTap
  split
  · exact refuse_answers ..
  · split
    · exact refuse_answers ..
    · exact h _

theorem withElement_answers {subs minute : Bool} {e : Nat} {rest : Element → Served}
    (h : ∀ x, Served.Answers subs minute s (rest x)) : Served.Answers subs minute s (s.withElement e rest) := by
  unfold State.withElement
  split
  · exact refuse_answers ..
  · split
    · exact refuse_answers ..
    · exact h _

theorem foldl_keepsFields {α : Type} {f : State → α → State} (h : ∀ s x, State.Keeps true true true s (f s x)) (subs minute port : Bool)
    (l : List α) (s : State) : State.Keeps subs minute port s (l.foldl f s) :=
  ⟨fun _ => foldl_keep State.subs (fun s x => (h s x).1 rfl) l s,
    fun _ => foldl_keep (fun s => s.clock.minute) (fun s x => (h s x).2.1 rfl) l s,
    fun _ => foldl_keep State.port (fun s x => (h s x).2.2 rfl) l s⟩

/-- R112: selecting or deselecting the reference keeps the minute. -/
theorem State.setReference_minute (s : State) (select : Bool) : (s.setReference select).clock.minute = s.clock.minute := by
  unfold State.setReference
  dsimp only
  (repeat' split) <;> simp

/-- Every request of the table is a frame with its row's length and modes, whose owner answers. -/
theorem exec_request {n : Nat} {modes : Modes} (hr : requestRow c = some (n, modes)) :
    ∃ body owner, c.body? = some body ∧ (∀ s, exec c s = .next (request n modes body owner s)) ∧
      ∀ s, Served.Answers (!writesSubs c) (!writesMinute c) s (owner s) := by
  cases c <;> cases hr <;> refine ⟨_, _, rfl, fun _ => rfl, fun s => ?_⟩
  -- the owner looks for the account first
  case readSubscriber | changeTiers | unbind | activate | suspend | resume | closeSubscriber | retireSubscriber |
      collectStatement | withdrawPurchase =>
    exact withAccount_answers fun i r => by
      (repeat' split) <;> simp [writesSubs, writesMinute]
  -- the owner tests the fields of the body, or finds an account of its own, and then looks for the account
  case nextSubscriber | nextChangedSubscriber | setCeiling | bind | move | topUp | postPayment | postAdjustment | purchase =>
    simp only [nextSubscriberOwner, nextChangedSubscriberOwner, setCeilingOwner, bindOwner, moveOwner, topUpOwner,
      postPaymentOwner, postAdjustmentOwner, purchaseOwner, State.purchase]
    split
    · exact refuse_answers ..
    · try split
      all_goals first
        | exact refuse_answers ..
        | exact withAccount_answers fun i r => by
            (repeat' split) <;> simp [writesSubs, writesMinute, State.bindPort, State.releasePort]
  -- the owner looks for the tap, or for the element
  case retireTap | readTap | resendTap => exact withTap_answers fun t => by (repeat' split) <;> simp
  case retireElement | readElement =>
    exact withElement_answers fun x => by
      (repeat' split) <;> simp [State.endConditions]
  -- the owner has no test
  case readStatus | readSwitching | readClock | readBilling | readInputs | readAlarmUnit | clearStore =>
    simp [readStatusOwner, writesSubs, State.clearStore, State.emptied]
  case setReference => simp [State.setReference_minute]
  case goLive =>
    unfold goLiveOwner
    split
    · exact refuse_answers ..
    · have hkeeps : State.Keeps true true true s s.goLive := by
        unfold State.goLive
        refine .trans ?_ (foldl_keepsFields (fun u leg => ?_) _ _ _ _ _) <;> simp
      obtain ⟨hsubs, hminute, hport⟩ := hkeeps
      exact served_answers_iff.mpr ⟨⟨fun _ => hsubs rfl, fun _ => hminute rfl, nofun⟩, by rw [hport rfl]⟩
  -- the owner has one test, or several in turn
  case setEventParameters | setAlarmMask | defineTier | stageTierRate => split <;> simp
  case enrol | defineChannel | stageChannelChange | withdrawStagedChange | readChannel | readTier =>
    simp only [enrolOwner, State.enrolAt, defineChannelOwner, stageChannelOwner, withdrawStagedOwner, readChannelOwner,
      readTierOwner]
    (repeat' split) <;> simp [writesSubs, State.bindPort]
  case enrolTap | setLinkParameters | readLeg | enrolElement | nextElement | setTopologyParameters =>
    simp only [enrolTapOwner, setLinkOwner, readLegOwner, enrolElementOwner, State.enrolElement, nextElementOwner,
      setTopologyOwner]
    (repeat' split) <;> simp
  case setClock | adjustClock | setNextClose | setBillingParameters =>
    simp only [setClockOwner, adjustClockOwner, setNextCloseOwner, setBillingOwner]
    (repeat' split) <;> simp [writesMinute]
  case defineEvent | cancelEvent | removeEvent | readEvent | nextEvent =>
    simp only [defineEventOwner, cancelEventOwner, removeEventOwner, readEventOwner, nextEventOwner]
    (repeat' split) <;> simp [writesSubs]
  case configureInput | fetchAlarm | acknowledgeAlarm | readAlarm | nextAlarm | setAlarmLevel =>
    simp only [configureInputOwner, fetchAlarmOwner, ackOwner, readAlarmOwner, nextAlarmOwner, setAlarmLevelOwner]
    (repeat' split) <;> simp

theorem exec_request_keepsFields (hr : requestRow c ≠ none) : ∃ t, exec c s = .next t ∧ State.Keeps (!writesSubs c) (!writesMinute c) (!writesPort c) s t := by
  obtain ⟨⟨n, modes⟩, hrow⟩ := Option.ne_none_iff_exists'.mp hr
  obtain ⟨body, owner, -, hexec, howner⟩ := exec_request hrow
  obtain ⟨hsubs, hminute, -⟩ := request_keeps (P := State.Keeps (!writesSubs c) (!writesMinute c) false s) (n := n) (modes := modes)
    (body := body) (fun _ _ h => ⟨h.1, h.2.1, nofun⟩) (.refl ..) fun _ => (howner s).1
  exact ⟨_, hexec s, hsubs, hminute, fun hp => by simp [writesPort_of_request hrow] at hp⟩

theorem exec_event_keepsFields (hr : requestRow c = none) : ∃ t, exec c s = .next t ∧ State.Keeps (!writesSubs c) (!writesMinute c) (!writesPort c) s t := by
  cases c
  case hardReset b => exact ⟨_, rfl, nofun, nofun, nofun⟩
  -- the Request Port
  case requestFrameDiscarded | partialFrameDiscarded | unknownRequest | responseReady | readSelect =>
    simp only [exec, execRequestFrameDiscarded, execPartialFrameDiscarded, execUnknownRequest, execResponseReady,
      execReadSelect]
    (repeat' split) <;> simp [writesPort]
  -- the Time Base
  case secondEdge | referencePulse | lossTimerExpiry =>
    simp only [exec, execSecondEdge, execReferencePulse, execLossTimerExpiry, State.loseReference]
    (repeat' split) <;> simp [writesMinute]
  -- a boundary
  case lineupTakesBoundary | eventTableTakesBoundary =>
    simp only [exec, execLineupTakesBoundary, execEventTableTakesBoundary]
    split
    · simp
    · refine ⟨_, rfl, .trans ?_ (foldl_keepsFields (fun u i => ?_) _ _ _ _ _)⟩ <;> simp
  case tapTableTakesBoundary =>
    simp only [exec, execTapTableTakesBoundary]
    split <;> simp
  -- the walks, the sweep and the countdown
  case meteringVisit =>
    simp only [exec, execMeteringVisit, State.endPass, State.endClose, State.startPass]
    (repeat' split) <;> simp [writesSubs]
  case silentCountdownExpiry | endWalkVisit | sweepVisit =>
    simp only [exec, execSilentCountdownExpiry, execEndWalkVisit, execSweepVisit, State.afterSweep]
    (repeat' split) <;> simp [writesSubs]
  -- the legs
  case replyFrameReceived leg _ => exact ⟨_, rfl, foldl_keepsFields (fun s x => by simp) _ _ _ _ _⟩
  case legTakesWork | frameTransmitted | tryTimerExpiry | pollCycleExpiry | returnFaultBegins | returnFaultEnds |
      frameCutShort =>
    simp only [exec, execLegTakesWork, execFrameTransmitted, execTryTimerExpiry, execPollCycleExpiry, execReturnFaultBegins,
      execReturnFaultEnds, execFrameCutShort]
    (repeat' split) <;> simp
  -- the contact inputs
  case pinLevelChange | debounceTimerExpiry =>
    simp only [exec, execPinLevelChange, execDebounceTimerExpiry]
    (repeat' split) <;> simp
  all_goals cases hr

theorem exec_keepsFields (h : exec c s = .next t) : State.Keeps (!writesSubs c) (!writesMinute c) (!writesPort c) s t := by
  obtain ⟨u, hu, hsu⟩ : ∃ t, exec c s = .next t ∧ State.Keeps (!writesSubs c) (!writesMinute c) (!writesPort c) s t := by
    by_cases hr : requestRow c = none
    · exact exec_event_keepsFields hr
    · exact exec_request_keepsFields hr
  obtain rfl : u = t := by simpa [hu] using h
  exact hsu

/-- Every command has its effect in every state. -/
theorem exec_next (c : Instr) (s : State) : ∃ t, exec c s = .next t := by
  by_cases hr : requestRow c = none
  · obtain ⟨t, ht, -⟩ := exec_event_keepsFields (s := s) hr
    exact ⟨t, ht⟩
  · obtain ⟨t, ht, -⟩ := exec_request_keepsFields (s := s) hr
    exact ⟨t, ht⟩

end Sys2Proof.Machine
end

section
/-! PROOFS. O6 (R4): no step leaves a PREPAID subscriber ACTIVE without a cent. An operation on one household may leave that one short between two of its
parts, so what is carried through is `State.FundedBut i`, of every household but the one at index `i`. -/

namespace Sys2Proof.Machine

variable {s t : State} {i : Nat} {r : Subscriber}

/-! ## One record -/

/-- R4: a record that is ACTIVE and PREPAID has a cent. -/
def Subscriber.funded (r : Subscriber) : Prop := r.state = .active → r.purse.spent = false

theorem State.funded_iff : s.Funded ↔ ∀ i r, s.subs.get? i = some r → r.funded := by
  constructor
  · intro h i r hr ha
    unfold Purse.spent
    split
    next b hb =>
      have := h i r b hr ha hb
      simp; omega
    next => rfl
  · intro h i r b hr ha hb
    have := h i r hr ha
    simp [hb, Purse.spent] at this
    omega

theorem clampCents_pos {n : Nat} (h : 0 < n) : 0 < clampCents n := by unfold clampCents; omega

@[simp] theorem Subscriber.refunded_state (r : Subscriber) (price : Nat) : (r.refunded price).state = r.state := by
  unfold refunded; split <;> rfl

@[simp] theorem Subscriber.granted_state (r : Subscriber) (e : Episode) : (r.granted e).state = r.state := by
  unfold granted; split <;> rfl

@[simp] theorem Subscriber.charged_state (r : Subscriber) (rate : Nat) : (r.charged rate).state = r.state := by
  unfold charged; split <;> rfl

@[simp] theorem Subscriber.carriedOver_state (r : Subscriber) : r.carriedOver.state = r.state := by
  unfold carriedOver; split <;> rfl

@[simp] theorem Subscriber.owing_state (r : Subscriber) (net : Int) : (r.owing net).state = r.state := by
  unfold owing; split <;> rfl

/-- A refund takes no money. -/
theorem Subscriber.funded_refunded (h : r.funded) (price : Nat) : (r.refunded price).funded := by
  intro ha
  have hr := h (by simpa using ha)
  cases hp : r.purse with
  | account owed ceiling => simp [refunded, hp, Purse.spent]
  | prepaid b =>
    have hb : 0 < b := Nat.pos_of_ne_zero (by simpa [hp, Purse.spent] using hr)
    simpa [refunded, hp, Purse.spent] using (clampCents_pos (by omega : 0 < b + price)).ne'

/-- A credit takes no money. -/
theorem Subscriber.funded_granted (h : r.funded) (e : Episode) : (r.granted e).funded := by
  intro ha
  have hr := h (by simpa using ha)
  cases hp : r.purse with
  | account owed ceiling => simp [granted, hp, Purse.spent]
  | prepaid b =>
    have hb : 0 < b := Nat.pos_of_ne_zero (by simpa [hp, Purse.spent] using hr)
    simpa [granted, hp, Purse.spent] using (clampCents_pos (by omega : 0 < b + (r.creditRem + e.pendingCm) / 43200)).ne'

@[simp] theorem Subscriber.carriedOver_purse (r : Subscriber) : r.carriedOver.purse = r.purse := by
  unfold carriedOver; split <;> simp_all

@[simp] theorem Subscriber.owing_spent (r : Subscriber) (net : Int) : (r.owing net).purse.spent = r.purse.spent := by
  unfold owing
  split
  next h => simp [h, Purse.spent]
  next => rfl

theorem Subscriber.spent_of_restorable (h : r.restorable = true) : r.purse.spent = false ∧ r.state = .lapsed := by
  unfold restorable at h
  split at h
  next b hb =>
    simp only [Bool.and_eq_true, decide_eq_true_eq] at h
    simp [hb, Purse.spent, h.1]
    omega
  next => cases h

/-- A record short of funds is one that R4 keeps from ACTIVE. -/
theorem Purse.spent_of_short {p : Purse} (h : p.short = false) : p.spent = false := by
  cases p <;> simp_all [short, spent]

theorem Subscriber.byFunds_active (h : r.byFunds = .active) : r.purse.spent = false := by
  unfold byFunds at h
  split at h
  · cases h
  next hs => exact Purse.spent_of_short (by simpa using hs)

/-! ## The records -/

/-- R4 for every record but the one at index `i`. -/
def State.FundedBut (i : Nat) (s : State) : Prop := ∀ j r, i ≠ j → s.subs.get? j = some r → r.funded

theorem State.Funded.but (h : s.Funded) (i : Nat) : s.FundedBut i := fun j r _ hr => State.funded_iff.mp h j r hr

theorem State.FundedBut.funded (h : s.FundedBut i) (hi : ∀ r, s.subs.get? i = some r → r.funded) : s.Funded := by
  refine State.funded_iff.mpr fun j r hr => ?_
  by_cases hij : i = j
  · subst hij
    exact hi r hr
  · exact h j r hij hr

theorem State.Funded.congr (h : s.Funded) (ht : t.subs = s.subs) : t.Funded := by
  unfold State.Funded
  rw [ht]
  exact h

theorem State.FundedBut.congr (h : s.FundedBut i) (ht : t.subs = s.subs) : t.FundedBut i := by
  unfold State.FundedBut
  rw [ht]
  exact h

theorem State.updSub_subs (s : State) (i : Nat) (f : Subscriber → Subscriber) : (s.updSub i f).subs = s.subs.modify i f := rfl

theorem State.FundedBut.updSub (h : s.FundedBut i) (f : Subscriber → Subscriber) : (s.updSub i f).FundedBut i := by
  intro j r hij hr
  rw [s.updSub_subs, Table.get?_modify, if_neg hij] at hr
  exact h j r hij hr

/-- A change of the record at `i` that leaves it funded. -/
theorem updSub_funded (h : s.FundedBut i) {f : Subscriber → Subscriber} (hf : ∀ r, s.subs.get? i = some r → (f r).funded) :
    (s.updSub i f).Funded := by
  refine (h.updSub f).funded fun r hr => ?_
  rw [s.updSub_subs, Table.get?_modify_self, Option.map_eq_some_iff] at hr
  obtain ⟨x, hx, rfl⟩ := hr
  exact hf x hx

/-- R5: a change to ACTIVE of a record with a cent, or to another state. -/
theorem automaticChange_funded (h : s.FundedBut i) {x : SubState}
    (hx : ∀ r, s.subs.get? i = some r → x = .active → r.purse.spent = false) : (s.automaticChange i r x).Funded := by
  have hset : (s.updSub i fun r => { r with state := x, changed := true }).Funded := updSub_funded h hx
  exact hset.congr (by simp [State.automaticChange])

theorem requestChange_funded (h : s.FundedBut i) (hr : s.subs.get? i = some r) {x : SubState} (hx : x = .active → r.purse.spent = false) :
    (s.requestChange i r x).Funded := by
  unfold State.requestChange
  split
  next he =>
    refine h.funded fun r' hr' ha => ?_
    obtain rfl : r = r' := Option.some.inj (hr.symm.trans hr')
    exact hx (he.symm.trans ha)
  · have hset : (s.updSub i fun r => { r with state := x }).Funded := updSub_funded h fun r' hr' => by
      obtain rfl : r = r' := Option.some.inj (hr.symm.trans hr')
      exact hx
    exact hset.congr (by simp)

/-! ## Refunds and credits -/

theorem refund_funded (h : s.Funded) (price : Nat) (by_ : RefundBy) : (s.refund i price by_).Funded := by
  unfold State.refund
  split
  · exact h
  next r hr =>
    split
    · exact h
    · have hpaid : (s.updSub i fun r => r.refunded price).Funded :=
        updSub_funded (h.but i) fun x hx => Subscriber.funded_refunded (State.funded_iff.mp h i x hx) price
      have hget : (s.updSub i fun r => r.refunded price).subs.get? i = some (r.refunded price) := by simp [s.updSub_subs, hr]
      dsimp only
      split
      next hrestorable =>
        have hcent := (Subscriber.spent_of_restorable hrestorable).1
        split
        · refine automaticChange_funded (hpaid.but i) fun x hx _ => ?_
          obtain rfl := Option.some.inj (hget.symm.trans hx)
          exact hcent
        · exact requestChange_funded (hpaid.but i) hget fun _ => hcent
        · exact hpaid
      · exact hpaid

theorem grant_funded (h : s.Funded) (e : Episode) (settling : Bool) : (s.grant i e settling).Funded := by
  unfold State.grant
  split
  · exact h
  next r hr =>
    have hpaid : (s.updSub i fun r => r.granted e).Funded :=
      updSub_funded (h.but i) fun x hx => Subscriber.funded_granted (State.funded_iff.mp h i x hx) e
    have hget : (s.updSub i fun r => r.granted e).subs.get? i = some (r.granted e) := by simp [s.updSub_subs, hr]
    dsimp only
    split
    next hrestorable =>
      refine automaticChange_funded (hpaid.but i) fun x hx _ => ?_
      obtain rfl := Option.some.inj (hget.symm.trans hx)
      exact (Subscriber.spent_of_restorable hrestorable.1).1
    · exact hpaid

/-- A change of a record in neither its state nor its money. -/
theorem updSub_funded_of_same (h : s.Funded) {f : Subscriber → Subscriber}
    (hf : ∀ r, s.subs.get? i = some r → (f r).state = r.state ∧ (f r).purse.spent = r.purse.spent) : (s.updSub i f).Funded :=
  updSub_funded (h.but i) fun r hr ha => (hf r hr).2.trans (State.funded_iff.mp h i r hr ((hf r hr).1.symm.trans ha))

theorem endEpisode_funded (h : s.Funded) (e : Episode) (settling : Bool) : (s.endEpisode i e settling).Funded := by
  unfold State.endEpisode
  split
  · exact updSub_funded_of_same (grant_funded h e settling) fun _ _ => ⟨rfl, rfl⟩
  · exact updSub_funded_of_same h fun _ _ => ⟨rfl, rfl⟩

theorem outageCheck_funded (h : s.Funded) (rate : Nat) : (s.outageCheck i rate).Funded := by
  unfold State.outageCheck
  split
  · exact h
  · split
    · exact updSub_funded_of_same h fun _ _ => ⟨rfl, rfl⟩
    · split
      · exact h
      · exact endEpisode_funded h _ _

/-- R123, R124: an ACTIVE record whose draw has spent it lapses. -/
theorem meterRecord_funded (h : s.Funded) (hr : s.subs.get? i = some r) : (s.meterRecord i r).Funded := by
  unfold State.meterRecord
  split
  case h_5 =>
    refine outageCheck_funded ?_ _
    have hbut := (h.but i).updSub fun x => x.charged (s.rateSum r)
    split
    · exact automaticChange_funded hbut fun _ _ => nofun
    next hspent =>
      refine hbut.funded fun x hx _ => ?_
      rw [s.updSub_subs, Table.get?_modify_self, hr] at hx
      obtain rfl := Option.some.inj hx
      simpa using hspent
  case h_1 => exact h
  all_goals
    split
    · exact h
    · exact endEpisode_funded h _ _

theorem requestChange_of_ne {x : SubState} (h : r.state ≠ x) :
    s.requestChange i r x = (s.updSub i fun r => { r with state := x }).needFor r.tapPort := by
  rw [State.requestChange, if_neg h]

theorem State.needFor_subs (s : State) (p : Option PortRef) : (s.needFor p).subs = s.subs := by simp

@[simp] theorem Subscriber.settledRemainders_state (r : Subscriber) : r.settledRemainders.state = r.state := by
  unfold settledRemainders; split <;> rfl

@[simp] theorem Subscriber.finalised_state (r : Subscriber) (period : Nat) : (r.finalised period).state = r.state := by
  simp [finalised, withStatement, roundedOff]

/-! ## Closes -/

theorem payOpenEpisode_funded (h : s.Funded) (r : Subscriber) : (s.payOpenEpisode i r).Funded := by
  unfold State.payOpenEpisode
  split
  · exact h
  · split
    · exact updSub_funded_of_same (grant_funded h _ _) fun _ _ => ⟨rfl, rfl⟩
    · exact h

theorem closeFigures_funded (h : s.Funded) : (s.closeFigures i).Funded := by
  unfold State.closeFigures
  split
  · exact h
  next r hr =>
    have howing : (s.updSub i fun _ => r.carriedOver.owing (r.netOf r.tierCents r.creditCents)).Funded :=
      updSub_funded_of_same h fun x hx => by simp_all
    refine updSub_funded_of_same ?_ fun _ _ => ⟨rfl, rfl⟩
    split
    · exact automaticChange_funded (howing.but i) fun _ _ => nofun
    · exact howing

theorem closeRecord_funded (h : s.Funded) : (s.closeRecord i).Funded := by
  unfold State.closeRecord
  split
  · exact h
  · split
    · exact closeFigures_funded (payOpenEpisode_funded h _)
    · exact h

theorem visit_funded (h : s.Funded) (closing : Bool) : (s.visit i closing).Funded := by
  unfold State.visit
  split
  · exact h
  next r hr =>
    have hmetered := meterRecord_funded h hr
    dsimp only
    split
    · exact closeRecord_funded hmetered
    · exact hmetered

theorem settlePurchase_funded (h : s.Funded) (id : Nat) : (s.settlePurchase i id).Funded := by
  unfold State.settlePurchase
  split
  · exact h
  · split
    · exact refund_funded (h.congr (by simp)) _ _
    · exact h.congr (by simp)
    · split
      · split
        · exact refund_funded h _ _
        · exact h
      · exact h
    · exact h

/-- R18: a record that is CLOSED is not ACTIVE. -/
theorem closeSubscriber_funded (h : s.Funded) {r : Subscriber} (hr : r.state ≠ .closed) : (s.closeSubscriber i r).Funded := by
  have hfold (ids : List Nat) (u : State) (hu : u.Funded) : (ids.foldl (fun u id => u.settlePurchase i id) u).Funded := by
    induction ids generalizing u with
    | nil => exact hu
    | cons id ids ih => exact ih _ (settlePurchase_funded hu id)
  have hpurchases : (s.emptyPurchases i r).Funded := updSub_funded_of_same (hfold r.purchases s h) fun _ _ => ⟨rfl, rfl⟩
  have hepisode : ((s.emptyPurchases i r).settleEpisode i r).Funded := by
    unfold State.settleEpisode
    split
    · exact hpurchases
    · exact endEpisode_funded hpurchases _ _
  have hbut : (((s.emptyPurchases i r).settleEpisode i r).requestChange i r .closed).FundedBut i := by
    rw [requestChange_of_ne hr]
    have hclosed := (hepisode.but i).updSub fun r => { r with state := .closed }
    exact hclosed.congr (by simp)
  refine updSub_funded hbut fun x hx ha => ?_
  rw [requestChange_of_ne hr, State.needFor_subs, State.updSub_subs, Table.get?_modify_self, Option.map_eq_some_iff] at hx
  obtain ⟨y, -, rfl⟩ := hx
  simp at ha

/-! ## Walks -/

theorem walkVisit_funded (h : s.Funded) (id price : Nat) (refundDue : Bool) : (s.walkVisit id price i refundDue).Funded := by
  unfold State.walkVisit
  split
  · exact h
  · split
    · have hremoved : (s.updSub i fun r => { r with purchases := r.purchases.filter (· != id) }).Funded :=
        updSub_funded_of_same h fun _ _ => ⟨rfl, rfl⟩
      dsimp only
      split
      · exact refund_funded hremoved _ _
      · exact hremoved
    · exact h

theorem refundAll_funded (h : s.Funded) (id price : Nat) : (s.refundAll id price).Funded := by
  have hfold (is : List Nat) (u : State) (hu : u.Funded) : (is.foldl (fun u i => u.walkVisit id price i true) u).Funded := by
    induction is generalizing u with
    | nil => exact hu
    | cons i is ih => exact ih _ (walkVisit_funded hu id price true)
  exact (hfold (arrange s.free (s.purchasers id)) s h).congr rfl

/-! ## Requests -/

/-- R9, test 1: an ACTIVE PREPAID household is enrolled with money. -/
theorem EnrolFields.funded_record {f : EnrolFields} (h : f.inRange = true) : f.record.funded := by
  intro ha
  simp only [record] at ha ⊢
  split
  next hm =>
    have hstate : subStateOf f.state = some .active := by
      cases hs : subStateOf f.state <;> simp_all
    simp only [inRange, hm, hstate] at h
    simp only [Purse.spent, decide_eq_false_iff_not]
    simp at h
    omega
  next => rfl

/-- A binding is no money. -/
theorem bindPort_funded (h : s.Funded) (p : PortRef) : (s.bindPort i p).Funded := by
  have hbound : (s.updSub i fun r => { r with tapPort := some p }).Funded := updSub_funded_of_same h fun _ _ => ⟨rfl, rfl⟩
  exact hbound.congr rfl

theorem releasePort_funded (h : s.Funded) (p : PortRef) : (s.releasePort i p).Funded := by
  have hfree : (s.updSub i fun r => { r with tapPort := none }).Funded := updSub_funded_of_same h fun _ _ => ⟨rfl, rfl⟩
  exact hfree.congr rfl

theorem enrolAt_funded (h : s.Funded) {f : EnrolFields} (hf : f.inRange = true) : (s.enrolAt i f).Funded := by
  have hset : State.Funded { s with subs := s.subs.set i f.record, accounts := s.accounts.set f.account i } := by
    refine State.funded_iff.mpr fun j r hr => ?_
    simp only [Table.get?_set] at hr
    split at hr
    · obtain rfl := Option.some.inj hr
      exact EnrolFields.funded_record hf
    · exact State.funded_iff.mp h j r hr
  unfold State.enrolAt
  dsimp only
  split
  · exact hset
  next p _ =>
    exact (bindPort_funded (i := i) hset p).congr (by simp)

theorem retireRecord_funded (h : s.Funded) (account : Nat) (r : Subscriber) : (s.retireRecord account i r).Funded := by
  have hu : (s.unbindRecord i r.tapPort).Funded := by
    unfold State.unbindRecord
    split
    · exact h
    next p _ => exact (releasePort_funded (i := i) h p).congr (by simp)
  refine State.funded_iff.mpr fun j x hx => ?_
  simp only [State.retireRecord, Table.get?_erase] at hx
  split at hx
  · cases hx
  · exact State.funded_iff.mp hu j x hx

theorem funded_of_empty (h : t.subs = []) : t.Funded := State.funded_iff.mpr fun i r hr => by rw [h] at hr; cases hr

theorem State.Reshaping.funded (hu : s.Reshaping t) (h : s.Funded) : t.Funded := by
  cases hu with
  | hardReset b => exact funded_of_empty rfl
  | clearStore => exact funded_of_empty (by simp [State.clearStore, State.emptied])
  | enrol f hf => exact enrolAt_funded h hf
  | retireSubscriber account i r => exact retireRecord_funded h account r
  | bind i r p => exact (bindPort_funded (i := i) h p).congr (by simp)
  | move i r old p => exact (bindPort_funded (i := i) (releasePort_funded (i := i) h old) p).congr (by simp)
  | unbind i r p => exact (releasePort_funded (i := i) h p).congr (by simp)
  | retireTap tap x => exact h.congr (s.retireTap_subs tap x)
  | retireElement e x => exact h.congr (s.retireElement_subs e x)
  | enrolTap | enrolRoot | enrolChild | defineEvent | removeEvent | configure => exact h.congr (by simp)

/-- A record put in place of the one at `i`, and then changed to a state that it may have. -/
theorem replaced_requestChange_funded (h : s.Funded) (hr : s.subs.get? i = some r) {r1 : Subscriber} {x : SubState}
    (hx : x = .active → r1.purse.spent = false) : ((s.updSub i fun _ => r1).requestChange i r1 x).Funded :=
  requestChange_funded ((h.but i).updSub _) (by simp [s.updSub_subs, hr]) hx

end Sys2Proof.Machine
end

section
/-! PROOFS. O6, the commands that write the records: each request against R4, then every command. -/

namespace Sys2Proof.Machine

variable {s t : State} {c : Instr} {i : Nat} {r : Subscriber}

theorem request_funded {n : Nat} {modes : Modes} {body : List Byte} {owner : State → Served} (hs : s.Funded)
    (ho : (owner s).1.Funded) : (request n modes body owner s).Funded :=
  request_keeps (fun _ _ h => h) hs fun _ => ho

theorem next_funded {u : State} (ht : t.Funded) (h : (.next t : Out) = .next u) : u.Funded := by
  cases h
  exact ht

/-! ## States and money -/

/-- R14, R16: Activate and Resume put a record where its funds allow. -/
theorem byFunds_requestChange_funded (hs : s.Funded) (hr : s.subs.get? i = some r) : (s.requestChange i r r.byFunds).Funded :=
  requestChange_funded (hs.but i) hr Subscriber.byFunds_active

/-- R17: a record with another ceiling is an ACCOUNT record. -/
theorem setCeilingOwner_funded (hs : s.Funded) (b : List Byte) : (setCeilingOwner b s).1.Funded := by
  unfold setCeilingOwner
  split
  · exact hs
  · refine withAccount_keeps hs fun i r _ hr => ?_
    split
    · exact hs
    · split
      · exact hs
      · exact replaced_requestChange_funded hs hr fun _ => rfl

/-- A record that takes money and is restored where R146 restores it. -/
theorem restored_active (ha : (if r.restorable then SubState.active else r.state) = .active) (hr : r.state = .active → r.purse.spent = false) :
    r.purse.spent = false := by
  split at ha
  next h => exact (Subscriber.spent_of_restorable h).1
  · exact hr ha

theorem topUpOwner_funded (hs : s.Funded) (b : List Byte) : (topUpOwner b s).1.Funded := by
  unfold topUpOwner
  split
  · exact hs
  next hamount =>
    refine withAccount_keeps hs fun i r _ hr => ?_
    split
    · exact hs
    next old _ =>
      split
      · exact hs
      · refine replaced_requestChange_funded hs hr fun ha => restored_active ha fun _ => ?_
        have : 0 < old + u32 b 4 := by
          simp [amountOk] at hamount
          omega
        simpa [Purse.spent] using (clampCents_pos this).ne'

theorem postPaymentOwner_funded (hs : s.Funded) (b : List Byte) : (postPaymentOwner b s).1.Funded := by
  unfold postPaymentOwner
  split
  · exact hs
  · refine withAccount_keeps hs fun i r _ hr => ?_
    split
    · exact hs
    · split
      · exact hs
      · exact replaced_requestChange_funded hs hr fun _ => rfl

/-- R136: an adjusted record stays ACTIVE only with a cent. -/
theorem Subscriber.adjustedState_active (h : r.adjustedState = .active) : r.purse.spent = false := by
  unfold adjustedState at h
  split at h
  · cases h
  next hne => exact restored_active h fun ha => by simpa [ha] using hne

theorem postAdjustmentOwner_funded (hs : s.Funded) (b : List Byte) : (postAdjustmentOwner b s).1.Funded := by
  unfold postAdjustmentOwner
  split
  · exact hs
  · refine withAccount_keeps hs fun i r _ hr => ?_
    split
    · exact hs
    · exact replaced_requestChange_funded hs hr Subscriber.adjustedState_active

/-! ## Purchases -/

/-- R147, test 8: a purchase leaves the buyer a cent. -/
theorem bought_spent {id price : Nat} {restore : Bool} (hr : r.funded) (ha : restore = false → r.affords price = true) :
    (r.bought id price restore).funded := by
  cases restore with
  | true => exact hr
  | false =>
    intro _
    have haffords := ha rfl
    cases hp : r.purse with
    | account owed ceiling => simp [Subscriber.bought, hp, Purse.spent]
    | prepaid b =>
      simp [Subscriber.affords, hp] at haffords
      simp [Subscriber.bought, hp, Purse.spent]
      omega

theorem purchaseOwner_funded (hs : s.Funded) (b : List Byte) : (purchaseOwner b s).1.Funded := by
  unfold purchaseOwner
  dsimp only
  split
  · exact hs
  · split
    · exact hs
    · refine withAccount_keeps hs fun i r _ hr => ?_
      (repeat' split) <;> try exact hs
      next e _ _ _ _ _ haffords =>
        have hbought : (s.updSub i fun _ => r.bought (u16 b 4) e.price (flagAt b 6)).Funded :=
          updSub_funded (hs.but i) fun _ _ =>
            bought_spent (State.funded_iff.mp hs i r hr) fun hf => by simpa [hf] using haffords
        unfold State.purchase
        dsimp only [State.served]
        split <;> exact hbought.congr (by simp)

theorem withdrawPurchaseOwner_funded (hs : s.Funded) (b : List Byte) : (withdrawPurchaseOwner b s).1.Funded := by
  refine withAccount_keeps hs fun i r _ hr => ?_
  (repeat' split) <;> try exact hs
  have hremoved : (s.updSub i fun r => { r with purchases := r.purchases.filter (· != u16 b 4) }).Funded :=
    updSub_funded_of_same hs fun _ _ => ⟨rfl, rfl⟩
  exact refund_funded (hremoved.congr (by simp)) _ _

theorem cancelEventOwner_funded (hs : s.Funded) (b : List Byte) : (cancelEventOwner b s).1.Funded := by
  unfold cancelEventOwner
  dsimp only
  split
  · exact hs
  next e _ =>
    split
    · exact hs
    · have hrefunded : ((s.updEvent (u16 b 0) fun e => { e with state := .cancelled }).refundAll (u16 b 0) e.price).Funded :=
        refundAll_funded (hs.congr (by simp)) _ _
      dsimp only [State.served]
      split
      · exact hrefunded.congr (by simp)
      · exact hrefunded

/-! ## Bindings -/

theorem enrolOwner_funded (hs : s.Funded) (b : List Byte) : (enrolOwner b s).1.Funded := by
  unfold enrolOwner
  dsimp only
  split
  · exact hs
  next hf =>
    (repeat' split) <;> try exact hs
    exact enrolAt_funded hs (by simpa using hf)

theorem bindOwner_funded (hs : s.Funded) (b : List Byte) : (bindOwner b s).1.Funded := by
  unfold bindOwner
  dsimp only
  split
  · exact hs
  · refine withAccount_keeps hs fun i r _ hr => ?_
    (repeat' split) <;> try exact hs
    exact (bindPort_funded (i := i) hs ⟨u16 b 4, u8 b 6⟩).congr (by simp)

theorem moveOwner_funded (hs : s.Funded) (b : List Byte) : (moveOwner b s).1.Funded := by
  unfold moveOwner
  dsimp only
  split
  · exact hs
  · refine withAccount_keeps hs fun i r _ hr => ?_
    (repeat' split) <;> try exact hs
    next old _ _ _ =>
      exact (bindPort_funded (i := i) (releasePort_funded (i := i) hs old) ⟨u16 b 4, u8 b 6⟩).congr (by simp)

/-! ## Every command -/

theorem exec_funded (hs : s.Funded) (h : exec c s = .next t) : t.Funded := by
  by_cases hw : writesSubs c = true
  · cases c
    -- the store is empty
    case hardReset => exact next_funded (funded_of_empty rfl) h
    case clearStore => exact next_funded (request_funded hs (funded_of_empty (by simp [State.clearStore, State.emptied]))) h
    -- the household is found by its account and changed in neither its state nor its money
    case nextChangedSubscriber =>
      refine next_funded (request_funded hs ?_) h
      unfold nextChangedSubscriberOwner
      split
      · exact hs
      · exact withAccount_keeps hs fun i r _ hr => updSub_funded_of_same hs fun _ _ => ⟨rfl, rfl⟩
    case changeTiers body =>
      refine next_funded (request_funded hs (withAccount_keeps hs fun i r _ hr => ?_)) h
      split
      · exact hs
      · have hset : (s.updSub i fun r => { r with tiers := tiersAt body 4 }).Funded := updSub_funded_of_same hs fun _ _ => ⟨rfl, rfl⟩
        exact hset.congr (by simp)
    case collectStatement =>
      refine next_funded (request_funded hs (withAccount_keeps hs fun i r _ hr => ?_)) h
      split
      · exact hs
      · exact updSub_funded_of_same hs fun _ _ => ⟨rfl, rfl⟩
    -- it is changed in its state
    case activate | resume =>
      refine next_funded (request_funded hs (withAccount_keeps hs fun i r _ hr => ?_)) h
      split
      · exact hs
      · exact byFunds_requestChange_funded hs hr
    case suspend =>
      refine next_funded (request_funded hs (withAccount_keeps hs fun i r _ hr => ?_)) h
      split
      · exact hs
      · exact requestChange_funded (hs.but i) hr nofun
    case closeSubscriber =>
      refine next_funded (request_funded hs (withAccount_keeps hs fun i r _ hr => ?_)) h
      split
      · exact hs
      next hopen => exact closeSubscriber_funded hs hopen
    case retireSubscriber body =>
      refine next_funded (request_funded hs (withAccount_keeps hs fun i r _ hr => ?_)) h
      (repeat' split) <;> try exact hs
      exact retireRecord_funded hs (u32 body 0) r
    -- it is changed in its binding
    case enrol body => exact next_funded (request_funded hs (enrolOwner_funded hs body)) h
    case bind body => exact next_funded (request_funded hs (bindOwner_funded hs body)) h
    case move body => exact next_funded (request_funded hs (moveOwner_funded hs body)) h
    case unbind =>
      refine next_funded (request_funded hs (withAccount_keeps hs fun i r _ hr => ?_)) h
      (repeat' split) <;> try exact hs
      next p _ _ => exact (releasePort_funded (i := i) hs p).congr (by simp)
    -- it is changed in its money
    case setCeiling body => exact next_funded (request_funded hs (setCeilingOwner_funded hs body)) h
    case topUp body => exact next_funded (request_funded hs (topUpOwner_funded hs body)) h
    case postPayment body => exact next_funded (request_funded hs (postPaymentOwner_funded hs body)) h
    case postAdjustment body => exact next_funded (request_funded hs (postAdjustmentOwner_funded hs body)) h
    case purchase body => exact next_funded (request_funded hs (purchaseOwner_funded hs body)) h
    case withdrawPurchase body => exact next_funded (request_funded hs (withdrawPurchaseOwner_funded hs body)) h
    case cancelEvent body => exact next_funded (request_funded hs (cancelEventOwner_funded hs body)) h
    -- the walks
    case meteringVisit =>
      simp only [exec, execMeteringVisit, State.endPass, State.endClose, State.startPass] at h
      split at h
      · exact next_funded hs h
      next p _ =>
        have hvisited := visit_funded (i := p.next) hs p.close.isSome
        (repeat' split at h) <;> exact next_funded (hvisited.congr (by simp)) h
    case endWalkVisit event =>
      simp only [exec, execEndWalkVisit] at h
      split at h
      · exact next_funded hs h
      · split at h
        · exact next_funded hs h
        next e _ _ w _ =>
          have hvisited := walkVisit_funded (i := w.next) hs event e.price w.refundDue
          (repeat' split at h) <;> exact next_funded (hvisited.congr (by simp)) h
    all_goals cases hw
  · exact hs.congr ((exec_keepsFields h).1 (by simpa using hw))

theorem State.tick_subs (s : State) : s.tick.subs = s.subs := by
  unfold State.tick
  split <;> rfl

/-- Settles O6. -/
theorem stepKeepsActivePrepaidFunded : Obligations.StepKeepsActivePrepaidFunded := fun _ _ =>
  step_keeps (P := State.Funded) (fun _ _ h => h) (fun s hs => hs.congr s.tick_subs) fun _ _ _ => exec_funded

end Sys2Proof.Machine
end

section
/-! PROOFS. The Request Port and the common tests (O9, O13, O14), and what moves the device mode and the minute (O10). -/

namespace Sys2Proof.Machine

variable {s t : State} {c : Instr}

/-! ## The device mode and the minute (R109, R110, R113, R116, R176) -/

theorem State.minuteBoundary_minute (s : State) : s.minuteBoundary.clock.minute = nextMinute s.clock.minute := by
  unfold State.minuteBoundary State.handBoundary State.startPass State.announce
  dsimp only
  (repeat' split) <;> simp

theorem State.secondEdge_minute (s : State) (byPulse : Bool) :
    (s.secondEdge byPulse).clock.minute = if s.clock.second = 59 then nextMinute s.clock.minute else s.clock.minute := by
  unfold State.secondEdge
  dsimp only
  split
  · rw [State.minuteBoundary_minute]
  · rfl

@[simp] theorem State.pulseTaken_minute (s : State) : s.pulseTaken.clock.minute = s.clock.minute := by
  unfold State.pulseTaken
  dsimp only
  split <;> simp

@[simp] theorem State.pulseTaken_second (s : State) : s.pulseTaken.clock.second = s.clock.second := by
  unfold State.pulseTaken
  dsimp only
  split <;> simp

theorem exec_mode_of_ne (h : exec c s = .next t) (hne : t.mode ≠ s.mode) :
    (t.mode = .live ∧ ∃ body, c = .goLive body) ∨ (t.mode = .loading ∧ ((∃ body, c = .clearStore body) ∨ ∃ b, c = .hardReset b)) := by
  cases hc : movesTiers c
  · obtain ⟨u, hu, hmode, -⟩ := exec_keepsTiers (s := s) hc
    obtain rfl : u = t := by simpa [hu] using h
    exact absurd hmode hne
  cases c
  case hardReset b =>
    cases h
    exact .inr ⟨rfl, .inr ⟨b, rfl⟩⟩
  case goLive body =>
    refine .inl ⟨?_, body, rfl⟩
    cases h
    have hgo : ∀ s : State, (goLiveOwner s).1.mode = .live := by
      intro s
      unfold goLiveOwner
      split
      next hl => exact hl
      · exact s.goLive_mode
    exact (request_keeps (P := fun u => u.mode = s.mode ∨ u.mode = .live) (fun _ _ h => h) (.inl rfl) fun _ => .inr (hgo s)).resolve_left hne
  case clearStore body =>
    refine .inr ⟨?_, .inl ⟨body, rfl⟩⟩
    cases h
    exact (request_keeps (P := fun u => u.mode = s.mode ∨ u.mode = .loading) (fun _ _ h => h) (.inl rfl)
      fun _ => .inr s.clearStore_mode).resolve_left hne
  case defineTier | stageTierRate =>
    cases h
    refine absurd ?_ hne
    refine request_keeps (P := fun u => u.mode = s.mode) (fun _ _ h => h) rfl fun _ => ?_
    split <;> simp
  case meteringVisit =>
    refine absurd ?_ hne
    simp only [exec, execMeteringVisit] at h
    (repeat' split at h) <;> cases h <;> simp
  all_goals cases hc

/-- R113: a second edge from second 59 is the only edge that moves the minute. -/
theorem secondEdge_minute_of_ne {byPulse : Bool} (hne : (s.secondEdge byPulse).clock.minute ≠ s.clock.minute) :
    s.clock.second = 59 ∧ (s.secondEdge byPulse).clock.minute = (s.clock.minute + 1) % 4294967296 := by
  rw [State.secondEdge_minute] at hne ⊢
  split at hne
  next h => exact ⟨h, by simp [h, nextMinute]⟩
  next => exact absurd rfl hne

theorem exec_minute_of_ne (h : exec c s = .next t) (hne : t.clock.minute ≠ s.clock.minute) :
    ((c = .secondEdge ∨ c = .referencePulse) ∧ s.clock.second = 59 ∧ t.clock.minute = (s.clock.minute + 1) % 4294967296) ∨
    ((∃ body, c = .setClock body) ∧ s.mode = .loading) ∨ ∃ b, c = .hardReset b := by
  cases hc : writesMinute c
  · exact absurd ((exec_keepsFields h).2.1 (by simp [hc])) hne
  cases c
  case hardReset b => exact .inr (.inr ⟨b, rfl⟩)
  case setClock body =>
    refine .inr (.inl ⟨⟨body, rfl⟩, ?_⟩)
    cases hm : s.mode with
    | loading => rfl
    | live =>
      cases h
      refine absurd ?_ hne
      refine request_keeps (P := fun u => u.clock.minute = s.clock.minute) (fun _ _ h => h) rfl fun _ => ?_
      simp only [setClockOwner, hm]
      split <;> rfl
  case secondEdge =>
    refine .inl ⟨.inl rfl, ?_⟩
    simp only [exec, execSecondEdge] at h
    split at h <;> cases h
    · exact secondEdge_minute_of_ne hne
    · exact absurd rfl hne
  case referencePulse =>
    refine .inl ⟨.inr rfl, ?_⟩
    simp only [exec, execReferencePulse] at h
    (repeat' split at h) <;> cases h
    · exact absurd rfl hne
    · simpa using secondEdge_minute_of_ne (s := s.pulseTaken) (by simpa using hne)
    · exact absurd rfl hne
    · exact absurd s.pulseTaken_minute hne
  all_goals cases hc

/-- Settles O10. -/
theorem whatMovesTheModeAndTheMinute : Obligations.WhatMovesTheModeAndTheMinute :=
  ⟨fun _ _ _ => exec_mode_of_ne, fun _ _ _ => exec_minute_of_ne⟩

/-! ## The port (R173) -/

theorem State.PortInStep.congr (h : s.PortInStep) (hport : t.port = s.port) : t.PortInStep := by
  unfold State.PortInStep
  rw [hport]
  exact h

/-- A frame is ignored, or discarded, or accepted and answered. -/
theorem request_portInStep {n : Nat} {modes : Modes} {body : List Byte} {owner : State → Served} (hs : s.PortInStep) :
    (request n modes body owner s).PortInStep := by
  unfold request
  split
  · exact hs
  · split
    · exact hs
    · simp [State.PortInStep, State.acceptFrame, State.answer]

theorem exec_portInStep (hs : s.PortInStep) (h : exec c s = .next t) : t.PortInStep := by
  cases hc : writesPort c
  · exact hs.congr ((exec_keepsFields h).2.2 (by simp [hc]))
  cases hr : requestRow c with
  | some row =>
    obtain ⟨body, owner, -, hexec, -⟩ := exec_request hr
    rw [hexec] at h
    cases h
    exact request_portInStep hs
  | none =>
    cases c
    case hardReset b =>
      cases h
      simp [State.PortInStep, Port.reset]
    case requestFrameDiscarded code body =>
      simp only [exec, execRequestFrameDiscarded] at h
      (repeat' split at h) <;> cases h <;> exact hs
    case partialFrameDiscarded bytes =>
      simp only [exec, execPartialFrameDiscarded] at h
      split at h <;> cases h <;> exact hs
    case unknownRequest code body =>
      simp only [exec, execUnknownRequest] at h
      (repeat' split at h) <;> cases h
      · exact hs
      · exact hs
      · simp [State.PortInStep, State.acceptFrame, State.answer]
      · exact hs
    case responseReady =>
      simp only [exec, execResponseReady] at h
      (repeat' split at h) <;> cases h
      · exact hs
      · simp [State.PortInStep]
      · exact hs
    case readSelect n =>
      obtain ⟨hbuffer, hanswer⟩ := hs
      simp only [exec, execReadSelect] at h
      (repeat' split at h) <;> cases h
      · exact ⟨hbuffer, hanswer⟩
      next hwaiting _ _ => simp_all [State.PortInStep]
      · exact ⟨hbuffer, hanswer⟩
      · exact ⟨hbuffer, hanswer⟩
    all_goals simp_all [writesPort]

theorem State.tick_port (s : State) : s.tick.port = s.port := by
  unfold State.tick
  split <;> rfl

/-- Settles O9. -/
theorem stepKeepsThePortInStep : Obligations.StepKeepsThePortInStep := fun _ _ =>
  step_keeps (P := State.PortInStep) (fun _ _ h => h) (fun s hs => hs.congr s.tick_port) fun _ _ _ => exec_portInStep

/-! ## The common tests (R175) -/

/-- A request of the table, in the form of its row. -/
theorem exec_of_row {n : Nat} {modes : Modes} {body : List Byte} (hb : c.body? = some body) (hr : requestRow c = some (n, modes)) :
    ∃ owner, (∀ s, exec c s = .next (request n modes body owner s)) ∧
      ∀ s, (owner s).1.port.selectIgnored = s.port.selectIgnored ∧ ((owner s).2.status ≠ .ok → (owner s).1 = s ∧ (owner s).2.body = []) := by
  obtain ⟨body', owner, hb', hexec, howner⟩ := exec_request hr
  obtain rfl : body' = body := by simpa [hb'] using hb
  exact ⟨owner, hexec, fun s => (howner s).2⟩

/-- Settles O13. -/
theorem commonRefusals : Obligations.CommonRefusals := by
  refine ⟨fun code body s ⟨hstate, hselect⟩ hcode => ?_, fun c body n m s hb hr hl => ?_⟩
  · simp [exec, execUnknownRequest, hcode, hselect, hstate, State.acceptFrame, State.answer, State.replied, refusal, zeros]
  · obtain ⟨owner, hexec, -⟩ := exec_of_row hb hr
    rw [hexec]
    exact ⟨fun hlen => congrArg _ (request_badLength hl hlen), fun hlen hm => congrArg _ (request_wrongMode hl hlen hm)⟩

/-- A request with a body is in the table. -/
theorem requestRow_of_body {body : List Byte} (hb : c.body? = some body) : ∃ n modes, requestRow c = some (n, modes) := by
  cases c <;> cases hb <;> exact ⟨_, _, rfl⟩

theorem commonTests_refused {n : Nat} {modes : Modes} {body : List Byte} {owner : State → Served}
    (ho : (owner s).2.status ≠ .ok → (owner s).1 = s ∧ (owner s).2.body = []) (h : (commonTests n modes body owner s).2.status ≠ .ok) :
    (commonTests n modes body owner s).1 = s ∧ (commonTests n modes body owner s).2.body = [] := by
  unfold commonTests at h ⊢
  split at h
  · simp_all [State.refuse, refusal]
  · split at h
    · simp_all [State.refuse, refusal]
    · simp_all

/-- Settles O14. -/
theorem everyCommandIsServed : Obligations.EveryCommandIsServed := by
  refine ⟨exec_next, fun c body s hb hl => ?_⟩
  obtain ⟨n, modes, hr⟩ := requestRow_of_body hb
  obtain ⟨owner, hexec, howner⟩ := exec_of_row hb hr
  refine ⟨_, (commonTests n modes body owner s).2, (hexec s).trans (congrArg _ (request_listening hl)), rfl, rfl, rfl, fun hne => ?_⟩
  obtain ⟨hstate, hbody⟩ := commonTests_refused (howner s).2 hne
  exact ⟨hbody, by rw [hstate]⟩

end Sys2Proof.Machine
end

section
/-! PROOFS. The bytes of a select (O11), a select cut short or asserted at reset (O12), the answer of a read select (O15), and the queue, the hard reset and
the reset state (O1, O2, O3). -/

namespace Sys2Proof.Machine

variable {s t : State} {c : Instr}

/-! ## Frames (section 11.2) -/

/-- A body length of at most 255 is spelled by its byte. -/
theorem commandOfSelect_frameOf {code : Byte} {body : List Byte} (hc : code ≠ 0#8) (hb : body.length ≤ 255) :
    commandOfSelect (frameOf code body) = commandOfFrame code body := by
  have hlength : (BitVec.ofNat 8 body.length).toNat = body.length := by
    rw [BitVec.toNat_ofNat]
    omega
  simp [commandOfSelect, frameOf, hc, hlength, -BitVec.toNat_ofNat]

/-- The frame of a request of known code. -/
theorem selectOf_request {body : List Byte} (hb : c.body? = some body) :
    ∃ code, code ≠ 0#8 ∧ selectOf c = some (frameOf code body) ∧ commandOfFrame code body = c := by
  cases c <;> cases hb <;> exact ⟨_, by decide, rfl, rfl⟩

theorem wf_request {body : List Byte} (hb : c.body? = some body) : c.wf = bodyOk body := by
  cases c <;> cases hb <;> rfl

/-- Whether a code is in the request code table does not depend on the body. -/
theorem requestOf_eq_none {code : Nat} (h : requestOf code [] = none) (body : List Byte) : requestOf code body = none := by
  unfold requestOf at h ⊢
  split at h
  case h_65 => rfl
  all_goals cases h

theorem commandOfFrame_unknown {code : Byte} (h : unknownCode code = true) (body : List Byte) :
    commandOfFrame code body = .unknownRequest code body := by
  simp only [unknownCode, Bool.and_eq_true, Option.isNone_iff_eq_none] at h
  rw [commandOfFrame, requestOf_eq_none h.2, Option.getD_none]

/-- Settles O11. -/
theorem selectBytesSpellTheirCommand : Obligations.SelectBytesSpellTheirCommand := by
  intro c bytes hwf hdiscarded hbytes
  cases hb : c.body? with
  | some body =>
    obtain ⟨code, hcode, hselect, hframe⟩ := selectOf_request hb
    obtain rfl : frameOf code body = bytes := by simpa [hselect] using hbytes
    have hlen : body.length ≤ 255 := by simpa [bodyOk] using (wf_request hb).symm.trans hwf
    rw [commandOfSelect_frameOf hcode hlen, hframe]
  | none =>
    cases c
    case readSelect n =>
      cases hbytes
      simp [commandOfSelect]
    case partialFrameDiscarded bytes =>
      cases hbytes
      simpa [Instr.wf, isPartial] using hwf
    case unknownRequest code body =>
      cases hbytes
      simp only [Instr.wf, Bool.and_eq_true, bodyOk, decide_eq_true_eq] at hwf
      have hcode : code ≠ 0#8 := by
        rintro rfl
        exact absurd hwf.1 (by decide)
      rw [commandOfSelect_frameOf hcode hwf.2, commandOfFrame_unknown hwf.1]
    case requestFrameDiscarded code body => exact absurd rfl (hdiscarded code body)
    all_goals first
      | cases hbytes; done
      | cases hb

/-! ## Selects (R172 to R174) -/

/-- An accepted request does not make the port ignore a select. -/
theorem request_selectIgnored {n : Nat} {modes : Modes} {body : List Byte} {owner : State → Served} (hs : s.port.selectIgnored = false)
    (ho : (owner s).1.port.selectIgnored = s.port.selectIgnored) : (request n modes body owner s).port.selectIgnored = false := by
  have htests : (commonTests n modes body owner s).1.port.selectIgnored = false := by
    unfold commonTests
    (repeat' split) <;> simp [State.refuse, *]
  unfold request
  simp only [hs]
  split
  · simp_all
  · split <;> simp [State.discardFrame, State.acceptFrame, State.answer, *]

/-- What a select holds: a complete frame of any code, a partial frame or a read. -/
def isSelect (c : Instr) : Prop := (∃ body, carriesFrame c body) ∨ (∃ bytes, c = .partialFrameDiscarded bytes) ∨ ∃ n, c = .readSelect n

theorem exec_frame_ignored {body : List Byte} (hc : carriesFrame c body) (hs : s.port.selectIgnored = true) :
    exec c s = .next s.endIgnoredSelect := by
  obtain hb | ⟨code, rfl⟩ | ⟨code, rfl, hcode⟩ := hc
  · obtain ⟨n, modes, hr⟩ := requestRow_of_body hb
    obtain ⟨owner, hexec, -⟩ := exec_of_row hb hr
    rw [hexec, request_ignored hs]
  · simp [exec, execRequestFrameDiscarded, hs]
  · simp [exec, execUnknownRequest, hs, hcode]

/-- R172: a select that was asserted as the part left reset is ignored, whatever it carries. -/
theorem exec_select_ignored (hc : isSelect c) (hs : s.port.selectIgnored = true) : exec c s = .next s.endIgnoredSelect := by
  obtain ⟨body, hbody⟩ | ⟨bytes, rfl⟩ | ⟨n, rfl⟩ := hc
  · exact exec_frame_ignored hbody hs
  · simp [exec, execPartialFrameDiscarded, hs]
  · simp [exec, execReadSelect, hs]

theorem exec_frame_serving {body : List Byte} (hc : carriesFrame c body) (hs : s.port.state = .serving)
    (hi : s.port.selectIgnored = false) : exec c s = .next (s.discardFrame body.length) := by
  obtain hb | ⟨code, rfl⟩ | ⟨code, rfl, hcode⟩ := hc
  · obtain ⟨n, modes, hr⟩ := requestRow_of_body hb
    obtain ⟨owner, hexec, -⟩ := exec_of_row hb hr
    rw [hexec, request_serving hi hs]
  · simp [exec, execRequestFrameDiscarded, hi, hs]
  · simp [exec, execUnknownRequest, hi, hs, hcode]

/-- After a select no select is ignored. -/
theorem exec_select_selectIgnored (hc : isSelect c) (h : exec c s = .next t) : t.port.selectIgnored = false := by
  cases hs : s.port.selectIgnored with
  | true =>
    obtain rfl : s.endIgnoredSelect = t := by simpa [exec_select_ignored hc hs] using h
    rfl
  | false =>
    obtain ⟨body, hb | ⟨code, rfl⟩ | ⟨code, rfl, -⟩⟩ | ⟨bytes, rfl⟩ | ⟨n, rfl⟩ := hc
    · obtain ⟨n, modes, hr⟩ := requestRow_of_body hb
      obtain ⟨owner, hexec, howner⟩ := exec_of_row hb hr
      rw [hexec] at h
      cases h
      exact request_selectIgnored hs (howner s).1
    all_goals
      simp only [exec, execRequestFrameDiscarded, execUnknownRequest, execPartialFrameDiscarded, execReadSelect, hs] at h
      (repeat' split at h) <;> cases h <;> simp_all [State.discardFrame, State.acceptFrame, State.answer]

/-- Settles O12. -/
theorem partialFramesAndTheSelectAtReset : Obligations.PartialFramesAndTheSelectAtReset := by
  refine ⟨fun bytes s hs => ?_, fun b s => ⟨_, rfl, rfl, rfl⟩, fun c s hs hc => exec_select_ignored hc hs, fun c s hc => ?_, rfl⟩
  · simp [exec, execPartialFrameDiscarded, hs, zeros]
  · obtain ⟨t, ht⟩ := exec_next c s
    exact ⟨t, ht, by simp [State.misoHighImpedance, State.selectAsserted, exec_select_selectIgnored hc ht]⟩

/-- The bytes of a response frame (section 11.2). -/
theorem Response.bytes_eq (r : Response) : r.bytes =
    BitVec.ofNat 8 r.status.code :: BitVec.ofNat 8 (r.body.length / 256) :: BitVec.ofNat 8 r.body.length :: r.body := rfl

theorem Response.bytes_length (r : Response) : r.bytes.length = 3 + r.body.length := by
  simp [bytes_eq]
  omega

/-- R174: a read in WAITING, by whether it takes the whole response. -/
theorem exec_readSelect_waiting {r : Response} {n : Nat} (hi : s.port.selectIgnored = false) (hs : s.port.state = .waiting)
    (hr : s.port.responseBuffer = some r) : exec (.readSelect n) s =
      .next (if 3 + r.body.length ≤ n then { s with port := { s.port with state := .idle, responseBuffer := none, miso := shiftedOut r.bytes n } }
        else { s with port := { s.port with miso := shiftedOut r.bytes n } }) := by
  by_cases hn : 3 + r.body.length ≤ n <;> simp [exec, execReadSelect, hi, hs, hr, Response.bytes_length, hn]

/-- Settles O15. -/
theorem selectsAndTheAnswer : Obligations.SelectsAndTheAnswer := by
  refine ⟨fun c body s hc hs hi => exec_frame_serving hc hs hi, fun r s hs hr => ⟨_, ?_, ?_, rfl⟩,
    fun r n s hi hs hr => ⟨fun hn => ?_, fun hn => ?_⟩, fun n s hi hs => ?_⟩
  · simp [exec, execResponseReady, hr, hs]
  · rfl
  · rw [exec_readSelect_waiting hi hs hr, if_pos hn, shiftedOut, Response.bytes_length, List.take_of_length_le (by rwa [Response.bytes_length])]
    rfl
  · rw [exec_readSelect_waiting hi hs hr, if_neg (by omega), shiftedOut, Response.bytes_length, Nat.sub_eq_zero_of_le hn.le]
    simp [Response.bytes_eq, zeros]
  · simp only [exec, execReadSelect, hi, Bool.false_eq_true, if_false]
    split
    · simp_all
    · rfl

/-! ## The queue, the hard reset and the reset state -/

/-- Settles O1. -/
theorem stepRunsTheFrontCommand : Obligations.StepRunsTheFrontCommand := by
  refine ⟨fun c q s => rfl, fun s hq hdue => ?_, fun s hq hdue => ?_⟩ <;> simp only [step, hq, State.tick, hdue]
  · rfl
  · rfl

/-- Settles O2. -/
theorem hardResetRestoresEveryBlock : Obligations.HardResetRestoresEveryBlock := by
  intro s b
  refine ⟨s.hardReset b, rfl, rfl, rfl, rfl, rfl, rfl, rfl, rfl, rfl, rfl, rfl, rfl, rfl, rfl, fun n hn => ?_, fun n hn => ?_, fun n hn => ?_, fun l hl n => ?_,
    rfl, rfl, rfl, rfl, rfl, fun n x hx => ?_, rfl, rfl⟩
  · exact List.getElem?_replicate_of_lt hn
  · exact List.getElem?_replicate_of_lt hn
  · exact List.getElem?_replicate_of_lt hn
  · rw [List.eq_of_mem_replicate hl]
    rfl
  · exact (List.getElem?_map ..).trans (congrArg _ hx)

/-- Settles O3. -/
theorem resetHasTheInvariants : Obligations.ResetHasTheInvariants :=
  ⟨⟨rfl, rfl, rfl, rfl, rfl, rfl, rfl, rfl, rfl, rfl, rfl⟩, indexed_of_empty rfl rfl, funded_of_empty rfl, bound_of_empty rfl rfl,
    placed_of_empty rfl rfl rfl fun _ hl => List.eq_of_mem_replicate hl ▸ rfl, by simp [State.PortInStep, State.reset, Port.reset],
    ⟨nofun, nofun⟩, fun _ hx hc => by rw [List.eq_of_mem_replicate hx] at hc; cases hc⟩

end Sys2Proof.Machine
end

section
/-! PROOFS. Needs and sweep requests (O18, O19), and tables read in their order. -/

namespace Sys2Proof.Machine

variable {s t : State}

/-! ## Tables in their order -/

section Order

variable {α : Type}

theorem Table.get?_isSome_of_lt_freeFrom {t : Table α} {k j : Nat} (hk : k ≤ j) (hj : j < Table.freeFrom k t) : (Table.get? j t).isSome := by
  induction t generalizing k with
  | nil => simp [Table.freeFrom] at hj; omega
  | cons p t ih =>
    obtain ⟨i, x⟩ := p
    rw [Table.freeFrom] at hj
    rw [Table.get?_cons]
    split at hj
    next hi =>
      subst hi
      by_cases h : i = j
      · simp [h]
      · rw [if_neg h]
        exact ih (by omega) hj
    · omega

/-- Every number below the lowest free one holds a record. -/
theorem Table.get?_isSome_of_lt_lowestFree {t : Table α} {j : Nat} (hj : j < t.lowestFree) : (Table.get? j t).isSome :=
  Table.get?_isSome_of_lt_freeFrom (Nat.zero_le j) hj

/-- In a table in canonical form the first record with a property is the one below which no record has it. -/
theorem Table.find?_eq {t : Table α} (h : t.wf = true) {p : Nat × α → Bool} {k : Nat} {x : α} (hx : Table.get? k t = some x) (hp : p (k, x) = true)
    (hlow : ∀ j y, j < k → Table.get? j t = some y → p (j, y) = false) : t.find? p = some (k, x) := by
  rw [List.find?_eq_some_iff_append]
  refine ⟨hp, ?_⟩
  obtain ⟨u, v, huv⟩ := List.append_of_mem ((Table.get?_eq_some_iff h k x).mp hx)
  refine ⟨u, v, huv, fun q hq => ?_⟩
  have hmem : q ∈ t := by simp [huv, hq]
  have hlt : q.1 < k := by
    rw [Table.wf_iff, huv, List.map_append, List.pairwise_append] at h
    exact h.2.2 _ (List.mem_map_of_mem hq) _ (by simp)
  simp [hlow q.1 q.2 hlt ((Table.get?_eq_some_iff h _ _).mpr hmem)]

theorem Table.above_eq {t : Table α} (h : t.wf = true) {k a : Nat} {x : α} (ha : k < a) (hx : Table.get? a t = some x)
    (hlow : ∀ j, k < j → j < a → Table.get? j t = none) : t.above k = some (a, x) := by
  refine Table.find?_eq h hx (by simpa using ha) fun j y hj hy => ?_
  by_contra hkj
  simp [hlow j (by simpa using hkj) hj] at hy

theorem Table.above_eq_none {t : Table α} (h : t.wf = true) {k : Nat} (hnone : ∀ j, k < j → Table.get? j t = none) : t.above k = none := by
  refine List.find?_eq_none.mpr fun q hq => ?_
  have hget := (Table.get?_eq_some_iff h _ _).mpr hq
  by_contra hlt
  simp [hnone q.1 (by simpa using hlt)] at hget

end Order

/-! ## Needs (R49) -/

theorem State.need_inFlight {kind : QueueKind} {i : Nat} {x : Tap} (hx : s.taps.get? i = some x) (ho : x.origin.isSome) :
    s.need kind i = { s with taps := s.taps.modify i fun t => { t with dirty := true } } := by
  simp [State.need, hx, Tap.inFlight, ho, State.updTap]

/-- Settles O18. -/
theorem needIsTakenWhereTheTapStands : Obligations.NeedIsTakenWhereTheTapStands := by
  intro s kind i x hx
  refine ⟨State.need_inFlight hx, fun ho hu => ?_, fun ho hu hb => ?_, fun ho hu hb hc => ?_, fun ho hu hb hc => ?_⟩
  · simp [State.need, hx, Tap.inFlight, ho, State.membership, hu]
  · have hself : s.urgent.filter (· != i) = s.urgent :=
      List.filter_eq_self.mpr fun j hj => by simpa using fun h : j = i => hu (h ▸ hj)
    simp [State.need, hx, Tap.inFlight, ho, State.membership, hu, hb, State.leaveQueues, State.joinTail, hself]
  · simp [State.need, hx, Tap.inFlight, ho, State.membership, hu, hb, Tap.counting, hc]
  · simp [State.need, hx, Tap.inFlight, ho, State.membership, hu, hb, Tap.counting, hc, State.joinTail]

/-! ## Sweep requests (R62) -/

/-- The taps that clearing at once leaves. -/
theorem State.clearUnder_eq (s : State) (es : List Nat) : ∃ taps, s.clearUnder es = { s with taps := taps } ∧
    ∀ i, taps.get? i = (s.taps.get? i).map fun t =>
      if t.countdown = none ∧ ∃ x ∈ es, s.under x t.feeding = true
        then { t with ports := t.ports.map fun p => { p with confirmed := none } } else t := by
  refine ⟨_, rfl, fun i => ?_⟩
  rw [Table.get?_mapAll]
  refine congrArg (Option.map · _) (funext fun t => if_congr ?_ rfl rfl)
  simp [Tap.counting, and_comm]

/-- Settles O19. -/
theorem sweepRequestStartsOrJoins : Obligations.SweepRequestStartsOrJoins := by
  intro s e
  refine ⟨fun h => ⟨?_, ?_⟩, fun w h hs => ⟨?_, ?_⟩, fun w es h hs => ⟨fun he => ?_, fun he hlen => ?_⟩, fun w h hs => ?_, fun w es absorbed request h hcase => ?_⟩
  · simp [State.requestSweep, h, SweepRequest.scope]
  · simp [State.requestSweep, h, SweepRequest.scope]
  · simp [State.requestSweep, h, State.mergeScope, hs]
  · simp [State.requestSweep, h, State.mergeScope, hs]
  · simp [State.requestSweep, h, State.mergeScope, hs, he]
  · simp [State.requestSweep, h, State.mergeScope, hs, he, hlen]
  · simp [State.requestSweep, h, State.mergeScope, hs]
  · obtain ⟨taps, htaps, hget⟩ := s.clearUnder_eq absorbed
    refine ⟨taps, ?_, hget⟩
    obtain ⟨hs, rfl, rfl⟩ | ⟨hs, rfl, rfl⟩ | ⟨hs, rfl, he, hlen, rfl⟩ := hcase
    · simp [State.requestSweep, h, State.mergeScope, hs, htaps]
    · simp [State.requestSweep, h, State.mergeScope, hs, htaps]
    · simp [State.requestSweep, h, State.mergeScope, hs, htaps, he, hlen.not_gt]

end Sys2Proof.Machine
end

section
/-! PROOFS. The requests on one subscriber record: O20, O22, O23, O25, O26, O27. -/

namespace Sys2Proof.Machine

variable {s t : State} {i : Nat} {r : Subscriber} {body : List Byte}

/-! ## Requests on a record that is found -/

/-- What a need reads and writes is the taps and the queues. -/
theorem State.need_withRecords (s : State) (subs : Table Subscriber) (accounts : Table Nat) (events : Table EventRec) (kind : QueueKind)
    (tap : Nat) : ({ s with subs := subs, accounts := accounts, events := events } : State).need kind tap =
      { s.need kind tap with subs := subs, accounts := accounts, events := events } := by
  unfold State.need State.membership
  dsimp only
  cases Table.get? tap s.taps with
  | none => rfl
  | some x =>
    dsimp only
    cases x.inFlight with
    | true => rfl
    | false =>
      cases s.urgent.contains tap with
      | true => rfl
      | false =>
        cases s.bulk.contains tap with
        | true => cases kind <;> rfl
        | false => cases x.counting <;> cases kind <;> rfl

/-- A request that passes the common tests and finds its account. -/
theorem request_account {n : Nat} {account : Nat} {rest : State → Nat → Subscriber → Served} (hl : s.listening) (hb : body.length = n)
    (hr : s.holds account i r) :
    request n .both body (fun s => s.withAccount account (rest s)) s = (rest s i r).1.replied n (rest s i r).2 := by
  rw [request_owner_both hl hb, State.withAccount_holds hr]

/-- R5, R6: a change to another state, written as the record it leaves. -/
theorem requestChange_holds {account : Nat} (h : s.holds account i r) {x : SubState} (hx : r.state ≠ x) :
    s.requestChange i r x = (s.withSub i { r with state := x }).needFor r.tapPort := by
  rw [requestChange_of_ne hx, State.updSub_holds h]

theorem withSub_holds {account : Nat} (h : s.holds account i r) (r1 : Subscriber) : (s.withSub i r1).holds account i r1 := by
  obtain ⟨hwf, haccount, hget⟩ := h
  exact ⟨Table.wf_modify hwf i fun _ => r1, haccount, by simp [State.withSub, hget]⟩

@[simp] theorem withSub_withSub (s : State) (i : Nat) (a b : Subscriber) : (s.withSub i a).withSub i b = s.withSub i b := by
  simp [State.withSub, Table.modify_modify]

/-- A record replaced by one that then changes to another state. -/
theorem replaced_requestChange {account : Nat} (h : s.holds account i r) (r1 : Subscriber) {x : SubState} (hx : r1.state ≠ x) :
    (s.updSub i fun _ => r1).requestChange i r1 x = (s.withSub i { r1 with state := x }).needFor r1.tapPort := by
  have hset : (s.updSub i fun _ => r1) = s.withSub i r1 := rfl
  rw [hset, requestChange_holds (withSub_holds h r1) hx, withSub_withSub]

/-- A record replaced by one that keeps its state. -/
theorem replaced_requestChange_self (s : State) (i : Nat) (r1 : Subscriber) :
    (s.updSub i fun _ => r1).requestChange i r1 r1.state = s.withSub i r1 := by
  simp [State.requestChange, State.updSub, State.withSub]

/-! ## States and tiers (R4, R14 to R17, R20) -/

theorem Subscriber.byFunds_eq {x : SubState}
    (h : (x = .lapsed ∧ (r.purse = .prepaid 0 ∨ ∃ owed ceiling, r.purse = .account owed ceiling ∧ (ceiling : Int) < owed)) ∨
      (x = .active ∧ ((∃ b, r.purse = .prepaid b ∧ b ≠ 0) ∨ ∃ owed ceiling, r.purse = .account owed ceiling ∧ owed ≤ ceiling))) :
    r.byFunds = x := by
  obtain ⟨rfl, h | ⟨owed, ceiling, h, hlt⟩⟩ | ⟨rfl, ⟨b, h, hb⟩ | ⟨owed, ceiling, h, hle⟩⟩ := h <;>
    simp_all [byFunds, Purse.short]

/-- Settles O22. -/
theorem statesAndTiersOfARecord : Obligations.StatesAndTiersOfARecord := by
  intro s body i r hl hr
  refine ⟨fun x hb hx => ⟨fun hs => ?_, fun hs => ?_⟩, fun hb hs => ?_, fun hb hs => ?_⟩
  · obtain rfl := Subscriber.byFunds_eq hx
    have hne : r.state ≠ r.byFunds := by
      rw [hs]
      unfold Subscriber.byFunds
      split <;> decide
    simp only [exec, execActivate]
    rw [request_account hl hb hr, if_neg (by simpa using hs), requestChange_holds hr hne]
    rfl
  · obtain rfl := Subscriber.byFunds_eq hx
    have hne : r.state ≠ r.byFunds := by
      rw [hs]
      unfold Subscriber.byFunds
      split <;> decide
    simp only [exec, execResume]
    rw [request_account hl hb hr, if_neg (by simpa using hs), requestChange_holds hr hne]
    rfl
  · have hne : r.state ≠ .suspended := by rintro h; simp [h] at hs
    simp only [exec, execSuspend]
    rw [request_account hl hb hr, if_neg (by tauto), requestChange_holds hr hne]
    rfl
  · simp only [exec, execChangeTiers]
    rw [request_account hl hb hr, if_neg hs, State.updSub_holds hr]
    rfl

/-- Settles O23. -/
theorem setCeilingRetests : Obligations.SetCeilingRetests := by
  intro s body i r owed old x hl hb hceiling hr hpurse hopen hx
  have howner : setCeilingOwner body s = ((s.updSub i fun _ => { r with purse := .account owed (u32 body 4) }).requestChange i
      { r with purse := .account owed (u32 body 4) } x).served (w8 x.code) := by
    have hstate : Subscriber.retested { r with purse := .account owed (u32 body 4) } = x := by
      obtain ⟨hs | hs, hlt, rfl⟩ | ⟨hs | hs, hle, rfl⟩ | ⟨hs | hs, rfl⟩ := hx <;>
        simp_all [Subscriber.retested, Subscriber.byFunds, Purse.short]
    rw [setCeilingOwner, if_neg (by omega), State.withAccount_holds hr]
    simp only [hpurse, if_neg hopen, hstate]
  simp only [exec, execSetCeiling, request_owner_both hl hb, howner]
  refine ⟨fun hne => ?_, fun heq => ?_⟩
  · rw [replaced_requestChange hr { r with purse := .account owed (u32 body 4) } hne.symm]
    rfl
  · subst heq
    rw [replaced_requestChange_self s i { r with purse := .account owed (u32 body 4) }]
    rfl

/-! ## Bindings (R10, R19, R21 to R23) -/

/-- R21: both halves of a binding, on a record that is found. -/
theorem bindPort_holds {account : Nat} (h : s.holds account i r) (p : PortRef) : s.bindPort i p =
    { s.withSub i { r with tapPort := some p } with taps := s.taps.modify p.tap fun x => x.withBound p.port (some i) } := by
  rw [State.bindPort, State.updSub_holds h]
  rfl

theorem releasePort_holds {account : Nat} (h : s.holds account i r) (p : PortRef) : s.releasePort i p =
    { s.withSub i { r with tapPort := none } with taps := s.taps.modify p.tap fun x => x.withBound p.port none } := by
  rw [State.releasePort, State.updSub_holds h]
  rfl

theorem rebindPort_holds {account : Nat} (h : s.holds account i r) (old p : PortRef) : (s.releasePort i old).bindPort i p =
    { s.withSub i { r with tapPort := some p } with
      taps := (s.taps.modify old.tap fun x => x.withBound old.port none).modify p.tap fun x => x.withBound p.port (some i) } := by
  have hr : (s.releasePort i old).holds account i { r with tapPort := none } := by
    rw [releasePort_holds h]
    exact withSub_holds h _
  rw [bindPort_holds hr, releasePort_holds h]
  simp [State.withSub, Table.modify_modify]

/-- Settles O26. -/
theorem bindMoveUnbind : Obligations.BindMoveUnbind := by
  refine ⟨fun s body i tap port r x hl hb htap hport htaps hlow hhigh hr hx hopen hfree => ⟨fun hnone => ?_, fun old y hold hy hxo hyo => ?_⟩,
    fun s body i r p hl hb hr hp hstate => ?_⟩
  · subst htap hport
    simp only [exec, execBind, request_owner_both hl hb]
    have howner : bindOwner body s = ((s.bindPort i ⟨u16 body 4, u8 body 6⟩).need .urgent (u16 body 4)).served [] := by
      rw [bindOwner]
      rw [if_neg (by simp [portOk, hlow, hhigh]; omega), State.withAccount_holds hr]
      simp [hx, hopen, hnone, hfree]
    rw [howner, bindPort_holds hr]
    rfl
  · subst htap hport
    refine ⟨_, rfl, ?_⟩
    simp only [exec, execMove, request_owner_both hl hb]
    have howner : moveOwner body s =
        (((s.releasePort i old).bindPort i ⟨u16 body 4, u8 body 6⟩).moveNeeds old.tap (u16 body 4)).served [] := by
      rw [moveOwner]
      rw [if_neg (by simp [portOk, hlow, hhigh]; omega), State.withAccount_holds hr]
      simp [hx, hy, hopen, hold, hfree, State.tapInFlight, Tap.inFlight, hxo, hyo]
    rw [howner, rebindPort_holds hr, State.moveNeeds]
    split
    next heq => simp [heq, State.served, okWith]
    · rfl
  · simp only [exec, execUnbind]
    rw [request_account hl hb hr]
    simp only [hp]
    rw [if_neg (by tauto), releasePort_holds hr]
    rfl

/-- R10: both halves of a new record's binding. -/
theorem enrolAt_eq {f : EnrolFields} {p : PortRef} (hp : f.tapPort = some p) (s : State) (i : Nat) : s.enrolAt i f =
    ({ s with subs := (s.subs.set i f.record).modify i fun r => { r with tapPort := some p }, accounts := s.accounts.set f.account i
              taps := s.taps.modify p.tap fun x => x.withBound p.port (some i) } : State).need .urgent p.tap := by
  simp only [State.enrolAt, hp]
  rfl

/-- Settles O20. -/
theorem enrolCreatesTheRecord : Obligations.EnrolCreatesTheRecord := by
  intro s body f hl hb hf hrange hmode haccount hwf hroom htap
  subst hf
  have howner : enrolOwner body s = (s.enrolAt s.subs.lowestFree (enrolFields body)).served (w16 s.subs.lowestFree) := by
    have htest : s.tapPortTest (enrolFields body).tapPort = none := by
      unfold State.tapPortTest
      split
      · rfl
      next p hp =>
        obtain ⟨x, hx, hfree⟩ := htap p hp
        simp [hx, hfree]
    have hlive : ¬(s.mode = .live ∧ (subStateOf (enrolFields body).state ≠ some .new ∨ (enrolFields body).money ≠ 0)) := by
      rintro ⟨hm, h⟩
      simp_all
    simp only [enrolOwner, hrange, Bool.not_true, Bool.false_eq_true, if_false, if_neg hlive, haccount, Option.isSome_none,
      if_neg hroom.not_ge, htest]
  refine ⟨s.subs.lowestFree, s.enrolAt s.subs.lowestFree (enrolFields body), ?_, Table.get?_lowestFree hwf,
    fun j hj => Table.get?_isSome_of_lt_lowestFree hj, ?_⟩
  · simp only [exec, execEnrol, request_owner_both hl hb, howner]
    rfl
  · cases hp : (enrolFields body).tapPort with
    | none =>
      have henrol : s.enrolAt s.subs.lowestFree (enrolFields body) = { s with
          subs := s.subs.set s.subs.lowestFree (enrolFields body).record
          accounts := s.accounts.set (enrolFields body).account s.subs.lowestFree } := by
        simp [State.enrolAt, hp]
      rw [henrol]
      refine ⟨Table.get?_set_self .., fun j hj => ?_, Table.get?_set_self .., fun a ha => ?_, fun _ => rfl, nofun⟩
      · rw [Table.get?_set, if_neg hj.symm]
      · rw [Table.get?_set, if_neg ha.symm]
    | some p =>
      rw [enrolAt_eq hp]
      simp only [State.need_frame]
      refine ⟨by simp, fun j hj => ?_, Table.get?_set_self .., fun a ha => ?_, nofun, fun q hq => ?_⟩
      · rw [Table.get?_modify, if_neg hj.symm, Table.get?_set, if_neg hj.symm]
      · rw [Table.get?_set, if_neg ha.symm]
      · cases hq
        rfl

/-- R19, R23: what a retired record leaves, on the taps of its binding. -/
theorem unbindRecord_some (s : State) (i : Nat) (p : PortRef) : s.unbindRecord i (some p) =
    ({ s with subs := s.subs.modify i fun r => { r with tapPort := none }
              taps := s.taps.modify p.tap fun x => x.withBound p.port none } : State).need .urgent p.tap := rfl

/-- Settles O25. -/
theorem retireSubscriberFrees : Obligations.RetireSubscriberFrees := by
  intro s body i r hl hb hr hclosed hslot
  refine ⟨s.retireRecord (u32 body 0) i r, ?_, ?_⟩
  · simp only [exec, execRetireSubscriber]
    rw [request_account hl hb hr, if_neg (by simpa using hclosed), if_neg (by simp [hslot])]
    rfl
  · have hsubs : (s.unbindRecord i r.tapPort).subs = if r.tapPort = none then s.subs else s.subs.modify i fun r => { r with tapPort := none } := by
      cases hp : r.tapPort with
      | none => rfl
      | some p => simp [unbindRecord_some]
    have hother (j : Nat) (hj : j ≠ i) : (s.unbindRecord i r.tapPort).subs.get? j = s.subs.get? j := by
      rw [hsubs]
      split
      · rfl
      · rw [Table.get?_modify, if_neg hj.symm]
    have haccounts : (s.unbindRecord i r.tapPort).accounts = s.accounts ∧ (s.unbindRecord i r.tapPort).events = s.events := by
      simp
    obtain ⟨haccounts, hevents⟩ := haccounts
    refine ⟨?_, fun j hj => ?_, ?_, fun a ha => ?_, fun id => ?_, ?_, fun hnone => ?_, fun p hp => ?_⟩ <;>
      simp only [State.retireRecord, haccounts, hevents]
    · simp [Table.get?_erase]
    · rw [Table.get?_erase, if_neg hj.symm, hother j hj]
    · simp [Table.get?_erase]
    · rw [Table.get?_erase, if_neg ha.symm]
    · rw [Table.get?_mapAll]
      rfl
    · simp
    · rw [hnone]
      rfl
    · rw [hp, unbindRecord_some]
      exact (State.need_withRecords _ _ _ _ _ _).symm

/-! ## Refusals on a CLOSED record (R7) -/

/-- Settles O27. -/
theorem closedRecordIsRefused : Obligations.ClosedRecordIsRefused := by
  intro c body n i m r s hl hbody hrow hlen hr hclosed hc
  have hrefuse {owner : State → Served} (ho : owner s = s.refuse .badState) : request n .both body owner s = s.replied n ⟨.badState, []⟩ := by
    rw [request_owner_both hl hlen, ho]
    rfl
  have haccount (rest : Nat → Subscriber → Served) : s.withAccount (u32 body 0) rest = rest i r := State.withAccount_holds hr rest
  obtain rfl | rfl | rfl | rfl | rfl | ⟨rfl | rfl, htap, hlow, hhigh, hx⟩ | ⟨rfl, hceiling⟩ | ⟨rfl | rfl, hlow, hhigh⟩ | ⟨rfl, hlow, hhigh⟩ |
    ⟨rfl, hid, he, hrestore⟩ := hc <;> cases hrow
  · exact congrArg _ (hrefuse (by simp [haccount, hclosed]))
  · exact congrArg _ (hrefuse (by simp [haccount, hclosed]))
  · exact congrArg _ (hrefuse (by simp [haccount, hclosed]))
  · exact congrArg _ (hrefuse (by simp [haccount, hclosed]))
  · exact congrArg _ (hrefuse (by simp [haccount, hclosed]))
  · obtain ⟨x, hx⟩ := Option.isSome_iff_exists.mp hx
    exact congrArg _ (hrefuse (by simp [bindOwner, portOk, haccount, hclosed, htap.not_gt, hlow, hhigh, hx]))
  · obtain ⟨x, hx⟩ := Option.isSome_iff_exists.mp hx
    exact congrArg _ (hrefuse (by simp [moveOwner, portOk, haccount, hclosed, htap.not_gt, hlow, hhigh, hx]))
  · refine congrArg _ (hrefuse ?_)
    rw [setCeilingOwner, if_neg hceiling.not_gt, haccount]
    split
    · rfl
    · rw [if_pos hclosed]
  · refine congrArg _ (hrefuse ?_)
    rw [topUpOwner, if_neg (by simp [amountOk, hlow, hhigh]), haccount]
    split
    · rfl
    · rw [if_pos hclosed]
  · refine congrArg _ (hrefuse ?_)
    rw [postPaymentOwner, if_neg (by simp [amountOk, hlow, hhigh]), haccount]
    split
    · rfl
    · rw [if_pos hclosed]
  · refine congrArg _ (hrefuse ?_)
    rw [postAdjustmentOwner, if_neg (by omega), haccount, if_pos hclosed]
  · refine congrArg _ (hrefuse ?_)
    obtain ⟨e, he⟩ := Option.isSome_iff_exists.mp he
    have hmode : ¬(flagAt body 6 = true ∧ s.mode = .live) := by
      rintro ⟨hf, hm⟩
      obtain h | h := hrestore
      · simp [flagAt, h] at hf
      · simp [h] at hm
    have hcannot (restore : Bool) : r.cannotBuy restore = true := by cases restore <;> simp [Subscriber.cannotBuy, hclosed]
    simp only [purchaseOwner, if_neg hid, if_neg hmode, haccount, he, hcannot, if_true]

end Sys2Proof.Machine
end

section
/-! PROOFS. O28: a request that names one household by its account changes no other household's record. -/

namespace Sys2Proof.Machine

variable {s t u : State} {i : Nat} {r : Subscriber}

/-! ## Every record but one -/

/-- `t` has the records of `s`, but for the one at index `i`. -/
def State.SubsBut (i : Nat) (s t : State) : Prop := ∀ j, i ≠ j → t.subs.get? j = s.subs.get? j

theorem State.SubsBut.of_eq (h : t.subs = s.subs) : State.SubsBut i s t := fun j _ => by rw [h]

theorem State.SubsBut.trans (h : State.SubsBut i s t) (h' : State.SubsBut i t u) : State.SubsBut i s u :=
  fun j hj => (h' j hj).trans (h j hj)

/-- A change of the record at `i`, and then of no record. -/
theorem updSub_subsBut {f : Subscriber → Subscriber} (h : State.SubsBut i s t) (hu : u.subs = (t.updSub i f).subs) : State.SubsBut i s u := by
  intro j hj
  rw [hu, State.updSub_subs, Table.get?_modify, if_neg hj]
  exact h j hj

theorem State.SubsBut.refl (i : Nat) (s : State) : State.SubsBut i s s := .of_eq rfl

theorem requestChange_subsBut (s : State) (r : Subscriber) (x : SubState) : State.SubsBut i s (s.requestChange i r x) := by
  unfold State.requestChange
  split
  · exact .refl i s
  · exact updSub_subsBut (.refl i s) (State.needFor_subs _ _)

theorem automaticChange_subsBut (s : State) (r : Subscriber) (x : SubState) : State.SubsBut i s (s.automaticChange i r x) :=
  updSub_subsBut (.refl i s) (State.needFor_subs _ _)

theorem refund_subsBut (s : State) (price : Nat) (by_ : RefundBy) : State.SubsBut i s (s.refund i price by_) := by
  unfold State.refund
  split
  · exact .refl i s
  · split
    · exact .refl i s
    next r _ _ =>
      have hpaid : State.SubsBut i s (s.updSub i fun r => r.refunded price) := updSub_subsBut (.refl i s) rfl
      dsimp only
      split
      · split
        · exact hpaid.trans (automaticChange_subsBut _ _ _)
        · exact hpaid.trans (requestChange_subsBut _ _ _)
        · exact hpaid
      · exact hpaid

theorem grant_subsBut (s : State) (e : Episode) (settling : Bool) : State.SubsBut i s (s.grant i e settling) := by
  unfold State.grant
  split
  · exact .refl i s
  · have hpaid : State.SubsBut i s (s.updSub i fun r => r.granted e) := updSub_subsBut (.refl i s) rfl
    dsimp only
    split
    · exact hpaid.trans (automaticChange_subsBut _ _ _)
    · exact hpaid

theorem endEpisode_subsBut (s : State) (e : Episode) (settling : Bool) : State.SubsBut i s (s.endEpisode i e settling) := by
  unfold State.endEpisode
  split
  · exact updSub_subsBut (grant_subsBut s e settling) rfl
  · exact updSub_subsBut (.refl i s) rfl

theorem settlePurchase_subsBut (s : State) (id : Nat) : State.SubsBut i s (s.settlePurchase i id) := by
  unfold State.settlePurchase
  (repeat' split) <;> first
    | exact .of_eq rfl
    | exact State.SubsBut.trans (.of_eq rfl) (refund_subsBut _ _ _)

theorem closeSubscriber_subsBut (s : State) (r : Subscriber) : State.SubsBut i s (s.closeSubscriber i r) := by
  have hfold (ids : List Nat) (u : State) (hu : State.SubsBut i s u) : State.SubsBut i s (ids.foldl (fun u id => u.settlePurchase i id) u) := by
    induction ids generalizing u with
    | nil => exact hu
    | cons id ids ih => exact ih _ (hu.trans (settlePurchase_subsBut u id))
  have hpurchases : State.SubsBut i s (s.emptyPurchases i r) := updSub_subsBut (hfold r.purchases s (.refl i s)) rfl
  have hepisode : State.SubsBut i s ((s.emptyPurchases i r).settleEpisode i r) := by
    unfold State.settleEpisode
    split
    · exact hpurchases
    · exact hpurchases.trans (endEpisode_subsBut _ _ _)
  exact updSub_subsBut (hepisode.trans (requestChange_subsBut _ _ _)) rfl

theorem bindPort_subsBut (h : State.SubsBut i s t) (p : PortRef) : State.SubsBut i s (t.bindPort i p) :=
  updSub_subsBut (f := fun r => { r with tapPort := some p }) h rfl

theorem releasePort_subsBut (h : State.SubsBut i s t) (p : PortRef) : State.SubsBut i s (t.releasePort i p) :=
  updSub_subsBut (f := fun r => { r with tapPort := none }) h rfl

theorem need_subsBut (h : State.SubsBut i s t) (kind : QueueKind) (tap : Nat) : State.SubsBut i s (t.need kind tap) :=
  h.trans (.of_eq (by simp))

theorem moveNeeds_subsBut (h : State.SubsBut i s t) (a b : Nat) : State.SubsBut i s (t.moveNeeds a b) :=
  h.trans (.of_eq (by simp))

/-! ## The requests on one household -/

section Household

variable {n a j : Nat} {modes : Modes} {body : List Byte} {x : Subscriber}

/-- What an owner does that changes at most the record its account leads to. -/
theorem withAccount_household (hs : s.Indexed) (hj : s.subs.get? j = some x) (hx : x.account ≠ a) {rest : Nat → Subscriber → Served}
    (h : ∀ i r, State.SubsBut i s (rest i r).1) : (s.withAccount a rest).1.subs.get? j = some x := by
  refine withAccount_keeps (P := fun u => u.subs.get? j = some x) hj fun i r ha _ => ?_
  obtain ⟨r', hr', hacc⟩ := hs.found a i ha
  have hij : i ≠ j := by
    rintro rfl
    obtain rfl := Option.some.inj (hr'.symm.trans hj)
    exact hx hacc
  exact (h i r j hij).trans hj

theorem request_household (hj : s.subs.get? j = some x) {owner : State → Served} (ho : (owner s).1.subs.get? j = some x) :
    (request n modes body owner s).subs.get? j = some x :=
  request_keeps (P := fun u => u.subs.get? j = some x) (fun _ _ h => h) hj fun _ => ho

/-- The requests whose owner tests fields of the body first. -/
theorem tested_household {test : Prop} [Decidable test] {status : Status} {served : Served} (hj : s.subs.get? j = some x)
    (h : served.1.subs.get? j = some x) : (if test then s.refuse status else served).1.subs.get? j = some x := by
  split
  · exact hj
  · exact h

end Household

theorem ite_subsBut {test : Prop} [Decidable test] {p q : Served} (hp : State.SubsBut i s p.1) (hq : State.SubsBut i s q.1) :
    State.SubsBut i s (if test then p else q).1 := by
  split
  · exact hp
  · exact hq

theorem replaced_requestChange_subsBut (s : State) (r1 : Subscriber) (x : SubState) :
    State.SubsBut i s ((s.updSub i fun _ => r1).requestChange i r1 x) :=
  (updSub_subsBut (.refl i s) rfl).trans (requestChange_subsBut _ _ _)

theorem purchase_subsBut (s : State) (id : Nat) (r : Subscriber) (e : EventRec) (restore : Bool) :
    State.SubsBut i s (s.purchase i id r e restore).1 := by
  have hbought : State.SubsBut i s (s.updSub i fun _ => r.bought id e.price restore) := updSub_subsBut (.refl i s) rfl
  unfold State.purchase
  dsimp only [State.served]
  split
  · exact hbought.trans (.of_eq (State.needFor_subs _ _))
  · exact hbought

/-- Settles O28. -/
theorem requestsTouchTheirOwnHousehold : Obligations.RequestsTouchTheirOwnHousehold := by
  intro c s t a j x hs hc h hj hx
  cases c <;> cases hc <;> cases h <;> refine request_household hj ?_
  -- the owner looks for the account first
  case readSubscriber => exact withAccount_household hs hj hx fun i r => .refl i s
  case changeTiers =>
    refine withAccount_household hs hj hx fun i r => ite_subsBut (.refl i s) ?_
    exact updSub_subsBut (.refl i s) (State.needFor_subs _ _)
  case unbind =>
    refine withAccount_household hs hj hx fun i r => ?_
    (repeat' split) <;> first
      | exact .refl i s
      | exact need_subsBut (releasePort_subsBut (.refl i s) _) _ _
  case activate | suspend | resume =>
    exact withAccount_household hs hj hx fun i r => ite_subsBut (.refl i s) (requestChange_subsBut _ _ _)
  case closeSubscriber =>
    exact withAccount_household hs hj hx fun i r => ite_subsBut (.refl i s) (closeSubscriber_subsBut _ _)
  case retireSubscriber body =>
    refine withAccount_household hs hj hx fun i r => ite_subsBut (.refl i s) (ite_subsBut (.refl i s) fun k hk => ?_)
    have hunbound : State.SubsBut i s (s.unbindRecord i r.tapPort) := by
      unfold State.unbindRecord
      split
      · exact .refl i s
      · exact need_subsBut (releasePort_subsBut (.refl i s) _) _ _
    exact (Table.get?_erase ..).trans ((if_neg hk).trans (hunbound k hk))
  case collectStatement =>
    refine withAccount_household hs hj hx fun i r => ?_
    split
    · exact .refl i s
    · exact updSub_subsBut (.refl i s) rfl
  case withdrawPurchase body =>
    refine withAccount_household hs hj hx fun i r => ?_
    (repeat' split) <;> try exact .refl i s
    have hremoved : State.SubsBut i s (s.updSub i fun r => { r with purchases := r.purchases.filter (· != u16 body 4) }) :=
      updSub_subsBut (.refl i s) rfl
    exact hremoved.trans (refund_subsBut (State.updEvent _ (u16 body 4) fun e => { e with count := e.count - 1 }) _ _)
  -- the owner tests the fields of the body, and then looks for the account
  case bind body =>
    refine tested_household hj (withAccount_household hs hj hx fun i r => ?_)
    (repeat' split) <;> first
      | exact .refl i s
      | exact need_subsBut (bindPort_subsBut (.refl i s) _) _ _
  case move body =>
    refine tested_household hj (withAccount_household hs hj hx fun i r => ?_)
    (repeat' split) <;> first
      | exact .refl i s
      | exact moveNeeds_subsBut (bindPort_subsBut (releasePort_subsBut (.refl i s) _) _) _ _
  case setCeiling | topUp | postPayment =>
    refine tested_household hj (withAccount_household hs hj hx fun i r => ?_)
    (repeat' split) <;> first
      | exact .refl i s
      | exact replaced_requestChange_subsBut _ _ _
  case postAdjustment =>
    exact tested_household hj (withAccount_household hs hj hx fun i r =>
      ite_subsBut (.refl i s) (replaced_requestChange_subsBut _ _ _))
  case purchase body =>
    refine tested_household hj (tested_household hj (withAccount_household hs hj hx fun i r => ?_))
    (repeat' split) <;> first
      | exact .refl i s
      | exact purchase_subsBut _ _ _ _ _

end Sys2Proof.Machine
end

section
/-! PROOFS. The bytes of a response read back (R180), and O21: the three reads of a subscriber record and the layout of their body. -/

namespace Sys2Proof.Machine

variable {s t : State} {i : Nat} {r : Subscriber} {body : List Byte}

/-! ## Bytes written and read back (R180) -/

section Bytes

variable (n k : Nat) (p l : List Byte)

theorem u8_skip {p : List Byte} {k : Nat} (h : p.length ≤ k) : u8 (p ++ l) k = u8 l (k - p.length) := by
  simp [u8, List.getD_eq_getElem?_getD, List.getElem?_append_right h]

theorem u16_skip {p : List Byte} {k : Nat} (h : p.length ≤ k) : u16 (p ++ l) k = u16 l (k - p.length) := by
  rw [u16, u16, u8_skip l h, u8_skip l (by omega), Nat.sub_add_comm h]

theorem u32_skip {p : List Byte} {k : Nat} (h : p.length ≤ k) : u32 (p ++ l) k = u32 l (k - p.length) := by
  rw [u32, u32, u16_skip l h, u16_skip l (by omega), Nat.sub_add_comm h]

theorem i32_skip {p : List Byte} {k : Nat} (h : p.length ≤ k) : i32 (p ++ l) k = i32 l (k - p.length) := by
  rw [i32, i32, u32_skip l h]

theorem tiersAt_skip {p : List Byte} {k : Nat} (h : p.length ≤ k) : tiersAt (p ++ l) k = tiersAt l (k - p.length) := by
  rw [tiersAt, tiersAt, u16_skip l h]

theorem u8_w8 : u8 (w8 n ++ l) 0 = n % 256 := by simp [u8, w8]

theorem u16_w16 : u16 (w16 n ++ l) 0 = n % 65536 := by
  simp [u16, u8, w16, w8]
  omega

theorem u32_w32 : u32 (w32 n ++ l) 0 = n % 4294967296 := by
  simp [u32, u16, u8, w32, w16, w8]
  omega

theorem u8_wflag (f : Bool) : u8 (wflag f ++ l) 0 = if f then 1 else 0 := by cases f <;> rfl

theorem tiersAt_w16 (x : BitVec 16) : tiersAt (w16 x.toNat ++ l) 0 = x := by
  rw [tiersAt, u16_w16]
  exact BitVec.eq_of_toNat_eq (by simp; omega)

theorem i32_wi32 {n : Int} (hlow : -2147483648 ≤ n) (hhigh : n < 2147483648) : i32 (wi32 n ++ l) 0 = n := by
  have hword : (BitVec.ofNat 32 ((BitVec.ofInt 32 n).toNat % 4294967296)) = BitVec.ofInt 32 n :=
    BitVec.eq_of_toNat_eq (by simp; omega)
  rw [i32, wi32, u32_w32, hword, BitVec.toInt_ofInt]
  exact Int.bmod_eq_of_le (by omega) (by omega)

@[simp] theorem w8_length : (w8 n).length = 1 := by simp [w8]
@[simp] theorem w16_length : (w16 n).length = 2 := by simp [w16]
@[simp] theorem w32_length : (w32 n).length = 4 := by simp [w32]
@[simp] theorem wi32_length (n : Int) : (wi32 n).length = 4 := by simp [wi32]
@[simp] theorem wflag_length (f : Bool) : (wflag f).length = 1 := by simp [wflag]
@[simp] theorem wtapPort_length (q : Option PortRef) : (wtapPort q).length = 3 := by cases q <;> rfl

theorem wopt_length {α : Type} {width : Nat} {f : α → List Byte} (hf : ∀ x, (f x).length = width) (x : Option α) :
    (wopt width f x).length = width + 1 := by
  cases x <;> simp [wopt, hf] <;> omega

theorem u8_wopt {α : Type} (width : Nat) (f : α → List Byte) (x : Option α) :
    u8 (wopt width f x ++ l) 0 = if x.isSome then 1 else 0 := by cases x <;> rfl

theorem flatMap_w16_length (q : List Nat) : (q.flatMap w16).length = 2 * q.length := by
  induction q with
  | nil => rfl
  | cons x q ih =>
    simp [List.flatMap_cons] at ih ⊢
    omega

theorem u16_flatMap_w16 {q : List Nat} {n x : Nat} (h : q[n]? = some x) : u16 (q.flatMap w16 ++ l) (2 * n) = x % 65536 := by
  induction q generalizing n with
  | nil => simp at h
  | cons y q ih =>
    rw [List.flatMap_cons, List.append_assoc]
    cases n with
    | zero =>
      obtain rfl : y = x := by simpa using h
      exact u16_w16 y _
    | succ n =>
      rw [u16_skip _ (by simp), ← ih (by simpa using h)]
      rfl

end Bytes

/-! ## The three reads (R11 to R13) -/

theorem nextSubscriber_eq {a : Nat} (hwf : s.accounts.wf = true) (ha : u32 body 0 < a)
    (hlow : ∀ b, u32 body 0 < b → b < a → s.accounts.get? b = none) (hr : s.holds a i r) :
    nextSubscriberOwner body s = s.served (subscriberBody i r) := by
  rw [nextSubscriberOwner, Table.above_eq hwf ha hr.2.1 hlow]
  exact State.withAccount_holds hr _

theorem nextChangedSubscriber_eq {a : Nat} (hwf : s.accounts.wf = true) (hr : s.holds a i r) (hchanged : r.changed = true)
    (hlow : ∀ b j x, b < a → s.holds b j x → x.changed = false) :
    nextChangedSubscriberOwner s = (s.withSub i { r with changed := false }).served (subscriberBody i r) := by
  obtain ⟨hsubs, haccount, hget⟩ := hr
  have hfirst : s.firstChanged = some (a, i) := by
    refine Table.find?_eq hwf haccount (by simp [hget, hchanged]) fun b j hb hj => ?_
    dsimp only
    split
    · rfl
    next x hx => exact hlow b j x hb ⟨hsubs, hj, hx⟩
  rw [nextChangedSubscriberOwner, hfirst]
  dsimp only
  rw [State.withAccount_holds ⟨hsubs, haccount, hget⟩, State.updSub_holds ⟨hsubs, haccount, hget⟩]

/-! ## The layout (section 11.4) -/

/-- R2: the credit ceiling, 0 in a PREPAID record. -/
def Purse.ceiling : Purse → Nat
  | .prepaid _ => 0
  | .account _ ceiling => ceiling

/-- The bytes of a subscriber record, each field before the rest. -/
theorem subscriberBody_eq (i : Nat) (r : Subscriber) : subscriberBody i r =
    w16 i ++ (w32 r.account ++ (w8 r.purse.modeCode ++ (w8 r.state.code ++ (w16 r.tiers.toNat ++ (wtapPort r.tapPort ++
      (wi32 r.purse.figure ++ (w32 r.purse.ceiling ++ (w16 r.chargedMin ++ (w16 r.creditedMin ++
      (wopt 2 (fun e : Episode => w16 e.minutes) r.episode ++ (w8 r.purchases.length ++
      ((r.purchases ++ List.replicate (4 - r.purchases.length) 0).flatMap w16 ++ (wflag r.slot.isSome ++ (wflag r.changed ++ []))))))))))))))
    := by
  cases h : r.purse <;> simp [subscriberBody, List.append_assoc, h, Purse.ceiling]

/-- The purchase list on its four places. -/
theorem purchases_getElem? {q : List Nat} {n : Nat} :
    (∀ id, q[n]? = some id → (q ++ List.replicate (4 - q.length) 0)[n]? = some id) ∧
    (q.length ≤ n → n < 4 → (q ++ List.replicate (4 - q.length) 0)[n]? = some 0) := by
  refine ⟨fun id h => ?_, fun h h4 => ?_⟩
  · rw [List.getElem?_append_left (List.getElem?_eq_some_iff.mp h).1, h]
  · rw [List.getElem?_append_right h, List.getElem?_replicate_of_lt (by omega)]

/-- The purchase list stands after the first 29 bytes. -/
theorem subscriberBody_split (i : Nat) (r : Subscriber) : ∃ before after, before.length = 29 ∧
    subscriberBody i r = before ++ ((r.purchases ++ List.replicate (4 - r.purchases.length) 0).flatMap w16 ++ after) := by
  refine ⟨_, wflag r.slot.isSome ++ wflag r.changed, ?_, (List.append_assoc ..).trans (List.append_assoc ..)⟩
  simp [wopt_length (width := 2) (f := fun e : Episode => w16 e.minutes) fun _ => rfl]

theorem u16_subscriberBody_purchase {n id : Nat} (h : (r.purchases ++ List.replicate (4 - r.purchases.length) 0)[n]? = some id) :
    u16 (subscriberBody i r) (29 + 2 * n) = id % 65536 := by
  obtain ⟨before, after, hlen, heq⟩ := subscriberBody_split i r
  rw [heq, u16_skip _ (by omega), hlen, Nat.add_sub_cancel_left, u16_flatMap_w16 _ h]

/-- Settles O21. -/
theorem subscriberReads : Obligations.SubscriberReads := by
  refine ⟨⟨fun s body i r hl hb hr => ?_, fun s body a i r hl hb hwf ha hlow hr => ?_, fun s a i r hl hwf hr hchanged hlow => ?_⟩,
    fun i r b hb hi hacc hlen htap => ?_⟩
  · simp only [exec, execReadSubscriber]
    rw [request_account hl hb hr]
    rfl
  · simp only [exec, execNextSubscriber, request_owner_both hl hb, nextSubscriber_eq hwf ha hlow hr]
    rfl
  · simp only [exec, execNextChangedSubscriber]
    rw [request_owner_both (length := 0) (body := []) hl rfl, nextChangedSubscriber_eq hwf hr hchanged hlow]
    rfl
  · have hopt : (wopt 2 (fun e : Episode => w16 e.minutes) r.episode).length = 3 := wopt_length (width := 2) (fun _ => rfl) _
    have hlist : ((r.purchases ++ List.replicate (4 - r.purchases.length) 0).flatMap w16).length = 8 := by
      rw [flatMap_w16_length]
      simp
      omega
    have hpurchase {n id : Nat} (h : (r.purchases ++ List.replicate (4 - r.purchases.length) 0)[n]? = some id) :
        u16 b (29 + 2 * n) = id % 65536 := hb ▸ u16_subscriberBody_purchase h
    rw [subscriberBody_eq] at hb
    have hfields : b.length = 39 ∧ u16 b 0 = i % 65536 ∧ u32 b 2 = r.account % 4294967296 ∧ u8 b 6 = r.purse.modeCode % 256 ∧
        u8 b 7 = r.state.code % 256 ∧ tiersAt b 8 = r.tiers ∧ u32 b 17 = r.purse.ceiling % 4294967296 ∧ u16 b 21 = r.chargedMin % 65536 ∧
        u16 b 23 = r.creditedMin % 65536 ∧ u8 b 25 = (if r.episode.isSome then 1 else 0) ∧ u8 b 28 = r.purchases.length % 256 ∧
        u8 b 37 = (if r.slot.isSome then 1 else 0) ∧ u8 b 38 = (if r.changed then 1 else 0) := by
      subst hb
      simp only [u8_skip, u16_skip, u32_skip, tiersAt_skip, w8_length, w16_length, w32_length, wi32_length, wflag_length, wtapPort_length,
        hopt, hlist, Nat.reduceLeDiff, le_refl, Nat.reduceSub, u8_w8, u16_w16, u32_w32, u8_wflag, u8_wopt, tiersAt_w16, List.length_append,
        List.length_nil, Nat.reduceAdd, and_self]
    have hport : u16 b 10 = u16 (wtapPort r.tapPort ++ []) 0 ∧ u8 b 12 = u8 (wtapPort r.tapPort ++ []) 2 := by
      subst hb
      simp only [u8_skip, u16_skip, w8_length, w16_length, w32_length, Nat.reduceLeDiff, le_refl, Nat.reduceSub]
      cases r.tapPort <;> exact ⟨rfl, rfl⟩
    have hmoney : i32 b 13 = i32 (wi32 r.purse.figure ++ []) 0 := by
      subst hb
      simp only [i32_skip, w8_length, w16_length, w32_length, wtapPort_length, Nat.reduceLeDiff, le_refl, Nat.reduceSub]
      rfl
    have hminutes : u16 b 26 = u16 (wopt 2 (fun e : Episode => w16 e.minutes) r.episode ++ []) 1 := by
      subst hb
      simp only [u16_skip, w8_length, w16_length, w32_length, wi32_length, wtapPort_length, Nat.reduceLeDiff, Nat.reduceSub]
      cases r.episode <;> rfl
    obtain ⟨hlength, hindex, haccount, hmode, hstate, htiers, hceiling, hcharged, hcredited, hepisode, hcount, hslot, hflag⟩ := hfields
    obtain ⟨htapIndex, hportNumber⟩ := hport
    have hcode : r.state.code < 256 := by cases r.state <;> decide
    refine ⟨hlength, by omega, by omega, by omega, htiers, fun h => ?_, fun p h => ?_, fun balance h hm => ?_, fun owed ceiling h hlow hhigh hc => ?_,
      fun h => by omega, fun h => by omega, hepisode, fun h => ?_, fun e h hm => ?_, by omega, fun n h h4 => ?_, fun n id h hm => ?_, hslot, hflag⟩
    · rw [htapIndex, hportNumber, h]
      exact ⟨rfl, rfl⟩
    · obtain ⟨htap, hportLe⟩ := htap p h
      rw [htapIndex, hportNumber, h, wtapPort, List.append_assoc, u16_w16, u8_skip _ (by simp), w16_length, u8_w8]
      omega
    · rw [hmode, hmoney, hceiling, h]
      exact ⟨rfl, i32_wi32 [] (by simp only [Purse.figure]; omega) (by simp only [Purse.figure]; omega), rfl⟩
    · rw [hmode, hmoney, hceiling, h]
      exact ⟨rfl, i32_wi32 [] (by simp [Purse.figure]; omega) (by simp [Purse.figure]; omega), Nat.mod_eq_of_lt (by simp [Purse.ceiling]; omega)⟩
    · rw [hminutes, h]
      rfl
    · rw [hminutes, h, wopt, List.append_assoc, u16_skip _ (by simp), w8_length, u16_w16]
      omega
    · exact hpurchase (purchases_getElem?.2 h h4)
    · rw [hpurchase (purchases_getElem?.1 id h)]
      omega

end Sys2Proof.Machine
end

section
/-! PROOFS. O24: Close Subscriber, part by part, each part written as the record and the events it leaves. -/

namespace Sys2Proof.Machine

variable {s t : State} {i : Nat} {r : Subscriber}

/-! ## One record and the events -/

/-- The state with the record at an index and the events replaced. -/
def State.settling (s : State) (i : Nat) (r : Subscriber) (events : Table EventRec) : State := { s.withSub i r with events := events }

theorem settling_get? {x : Subscriber} (h : s.subs.get? i = some x) (r : Subscriber) (events : Table EventRec) :
    (s.settling i r events).subs.get? i = some r := by
  simp [State.settling, State.withSub, h]

theorem modify_const_modify {α : Type} (u : Table α) (x : α) (f : α → α) :
    (u.modify i fun _ => x).modify i f = u.modify i fun _ => f x := by
  rw [Table.modify_modify]

theorem settling_updSub (s : State) (i : Nat) (r : Subscriber) (events : Table EventRec) (f : Subscriber → Subscriber) :
    (s.settling i r events).updSub i f = s.settling i (f r) events := by
  simp only [State.updSub, State.settling, State.withSub, modify_const_modify]

/-! ## The purchase list (R152) -/

/-- The events with the counts lowered by the entries of a list. -/
def countedDown (events : Table EventRec) (ids : List Nat) : Table EventRec :=
  events.mapAll fun id e => if e.state = .scheduled ∨ e.state = .opened then { e with count := e.count - ids.count id } else e

theorem countedDown_nil (events : Table EventRec) : countedDown events [] = events := by
  unfold countedDown Table.mapAll
  refine (List.map_congr_left fun p _ => ?_).trans (List.map_id _)
  simp

theorem get?_countedDown (events : Table EventRec) (ids : List Nat) (id : Nat) : (countedDown events ids).get? id =
    (events.get? id).map fun e => if e.state = .scheduled ∨ e.state = .opened then { e with count := e.count - ids.count id } else e :=
  Table.get?_mapAll ..

/-- An entry that names a SCHEDULED or OPEN event lowers its count. -/
theorem countedDown_append {events : Table EventRec} (hwf : events.wf = true) {id : Nat} {e : EventRec} (he : events.get? id = some e)
    (hsells : e.state = .scheduled ∨ e.state = .opened) (ids : List Nat) :
    (countedDown events ids).modify id (fun e => { e with count := e.count - 1 }) = countedDown events (ids ++ [id]) := by
  unfold countedDown Table.mapAll Table.modify
  rw [List.map_map]
  refine List.map_congr_left fun p hp => ?_
  simp only [Function.comp]
  by_cases h : p.1 = id
  · have hpe : p.2 = e := Option.some.inj (((Table.get?_eq_some_iff hwf p.1 p.2).mpr hp).symm.trans (h ▸ he))
    simp [h, hpe, hsells, Nat.sub_sub]
  · simp [h, List.count_append, Ne.symm h]

/-- An entry that names any other event, or none, lowers no count. -/
theorem countedDown_append_of_not {events : Table EventRec} (hwf : events.wf = true) {id : Nat}
    (hnot : ∀ e, events.get? id = some e → ¬(e.state = .scheduled ∨ e.state = .opened)) (ids : List Nat) :
    countedDown events (ids ++ [id]) = countedDown events ids := by
  unfold countedDown Table.mapAll
  refine List.map_congr_left fun p hp => ?_
  by_cases h : p.1 = id
  · have hp2 := hnot p.2 (h ▸ (Table.get?_eq_some_iff hwf p.1 p.2).mpr hp)
    simp only [if_neg hp2]
  · simp [List.count_append, Ne.symm h]

theorem givenBack_eq (r : Subscriber) (price : Nat) : givenBack r price = if price = 0 then r else r.refunded price := rfl

/-- R146: a refund by Close Subscriber restores nothing. -/
theorem settling_refund {x : Subscriber} (h : s.subs.get? i = some x) (r : Subscriber) (events : Table EventRec) (price : Nat) :
    (s.settling i r events).refund i price .closing = s.settling i (givenBack r price) events := by
  unfold State.refund
  rw [settling_get? h, givenBack_eq]
  dsimp only
  split
  · rfl
  · rw [settling_updSub]
    split <;> rfl

theorem settling_updEvent (s : State) (i : Nat) (r : Subscriber) (events : Table EventRec) (id : Nat) (f : EventRec → EventRec) :
    (s.settling i r events).updEvent id f = s.settling i r (events.modify id f) := rfl

/-- R152: one entry of the purchase list. -/
theorem settling_settlePurchase {x : Subscriber} (h : s.subs.get? i = some x) (hwf : s.events.wf = true) (r : Subscriber) (ids : List Nat) (id : Nat) :
    (s.settling i r (countedDown s.events ids)).settlePurchase i id =
      s.settling i (givenBack r (dueBack s id)) (countedDown s.events (ids ++ [id])) := by
  unfold State.settlePurchase dueBack
  have hget : (s.settling i r (countedDown s.events ids)).events.get? id = _ := get?_countedDown s.events ids id
  rw [hget]
  cases he : s.events.get? id with
  | none =>
    rw [countedDown_append_of_not hwf (by simp [he])]
    rfl
  | some e =>
    cases hst : e.state with
    | scheduled =>
      simp only [hst, Option.map_some, true_or, if_true]
      rw [settling_updEvent, countedDown_append hwf he (.inl hst), settling_refund h]
    | opened =>
      simp only [hst, Option.map_some, or_true, if_true]
      rw [settling_updEvent, countedDown_append hwf he (.inr hst)]
      rfl
    | ended =>
      rw [countedDown_append_of_not hwf (by simp [he, hst])]
      simp only [hst, Option.map_some, reduceCtorEq, or_self, if_false]
      cases e.walk with
      | none => rfl
      | some w =>
        dsimp only
        split
        · rw [settling_refund h]
        · rfl
    | cancelled =>
      rw [countedDown_append_of_not hwf (by simp [he, hst])]
      simp only [hst, Option.map_some, reduceCtorEq, or_self, if_false]
      rfl

theorem settling_settlePurchases {x : Subscriber} (h : s.subs.get? i = some x) (hwf : s.events.wf = true) (todo done : List Nat) (r : Subscriber) :
    todo.foldl (fun u id => u.settlePurchase i id) (s.settling i r (countedDown s.events done)) =
      s.settling i (todo.foldl (fun r id => givenBack r (dueBack s id)) r) (countedDown s.events (done ++ todo)) := by
  induction todo generalizing r done with
  | nil => simp
  | cons id todo ih => rw [List.foldl_cons, settling_settlePurchase h hwf, ih, List.foldl_cons, List.append_assoc, List.singleton_append]

theorem settling_self {account : Nat} (h : s.holds account i r) : s.settling i r s.events = s := by
  have := State.updSub_holds h fun r => r
  rw [State.settling, ← this, State.updSub, Table.modify_id fun _ => rfl]

/-- R18, step 1. -/
theorem emptyPurchases_eq {account : Nat} (h : s.holds account i r) (hwf : s.events.wf = true) : s.emptyPurchases i r =
    s.settling i { r.purchases.foldl (fun r id => givenBack r (dueBack s id)) r with purchases := [] } (countedDown s.events r.purchases) := by
  have hstart : s = s.settling i r (countedDown s.events []) := by rw [countedDown_nil, settling_self h]
  have hfold := settling_settlePurchases h.2.2 hwf r.purchases [] r
  rw [← hstart, List.nil_append] at hfold
  rw [State.emptyPurchases, hfold, settling_updSub]

/-! ## The episode, the state and the final statement (R126, R133) -/

theorem credited_eq (r : Subscriber) (e : Episode) : r.granted e = credited r e := by
  unfold Subscriber.granted credited
  split <;> simp_all [clampCents]

theorem settling_endEpisode {x : Subscriber} (h : s.subs.get? i = some x) (r : Subscriber) (events : Table EventRec) (e : Episode) :
    (s.settling i r events).endEpisode i e true =
      s.settling i { (if s.billing.threshold ≤ e.minutes then credited r e else r) with episode := none } events := by
  unfold State.endEpisode
  have hbilling : (s.settling i r events).billing = s.billing := rfl
  rw [hbilling]
  split
  · unfold State.grant
    rw [settling_get? h]
    simp only [Bool.not_true, Bool.false_eq_true, and_false, if_false]
    rw [settling_updSub, settling_updSub, credited_eq]
  · rw [settling_updSub]

theorem roundedCents_eq (cm : Nat) : roundedCents cm = (cm + 21600) / 43200 := by
  unfold roundedCents
  split <;> omega

theorem withStatement_eq (r : Subscriber) (f : Figures) : r.withStatement f = stated r f.period f.tier f.credit f.net f.final := by
  cases f with
  | mk period tier credit net final =>
    unfold Subscriber.withStatement stated Subscriber.newStatement Subscriber.mergedStatement Purse.figure
    cases r.slot with
    | none => cases r.purse <;> rfl
    | some old => cases r.purse <;> cases final <;> rfl

theorem netOf_eq (r : Subscriber) (tier credit : Nat) : r.netOf tier credit = netWith r tier credit := rfl

theorem finalised_eq (r : Subscriber) (period : Nat) : r.finalised period = withFinalStatement r period := by
  unfold withFinalStatement Subscriber.finalised
  cases hp : r.purse with
  | account owed ceiling =>
    simp only [Subscriber.settledRemainders, hp, Subscriber.finalTier, Subscriber.finalCredit, roundedCents_eq, Subscriber.roundedOff,
      Subscriber.owing, withStatement_eq, netOf_eq]
    rfl
  | prepaid b =>
    simp only [Subscriber.settledRemainders, hp, Subscriber.finalTier, Subscriber.finalCredit, Subscriber.roundedOff,
      Subscriber.owing, withStatement_eq, netOf_eq]
    rfl

/-- R6: a need writes no record and no event. -/
theorem needFor_settling (s : State) (i : Nat) (r : Subscriber) (events : Table EventRec) (p : Option PortRef) :
    (s.settling i r events).needFor p = (s.needFor p).settling i r events := by
  cases p with
  | none => rfl
  | some p =>
    refine (State.need_withRecords s (s.withSub i r).subs s.accounts events .urgent p.tap).trans ?_
    have hsubs : (s.need .urgent p.tap).subs = s.subs := by simp
    have haccounts : (s.need .urgent p.tap).accounts = s.accounts := by simp
    simp only [State.settling, State.withSub, State.needFor, hsubs, haccounts]

/-- R126: a record with an open episode settled. -/
def episodeSettled (threshold : Nat) (episode : Option Episode) (r : Subscriber) : Subscriber :=
  match episode with
  | none => r
  | some e => { (if threshold ≤ e.minutes then credited r e else r) with episode := none }

theorem episodeSettled_closed (threshold : Nat) (episode : Option Episode) (r : Subscriber) :
    ({ episodeSettled threshold episode r with state := .closed } : Subscriber) = episodeSettled threshold episode { r with state := .closed } := by
  cases episode with
  | none => rfl
  | some e =>
    simp only [episodeSettled]
    split
    · simp only [credited]
      split <;> rfl
    · rfl

/-- R18, step 2. -/
theorem settling_settleEpisode {x : Subscriber} (h : s.subs.get? i = some x) (y : Subscriber) (events : Table EventRec) (r : Subscriber) :
    (s.settling i y events).settleEpisode i r = s.settling i (episodeSettled s.billing.threshold r.episode y) events := by
  cases he : r.episode with
  | none => simp only [State.settleEpisode, he, episodeSettled]
  | some e =>
    simp only [State.settleEpisode, he]
    exact settling_endEpisode h y events e

/-- R18: the four steps, on a record that is found. -/
theorem closeSubscriber_eq {account : Nat} (h : s.holds account i r) (hwf : s.events.wf = true) (hopen : r.state ≠ .closed) : s.closeSubscriber i r =
    (s.settling i (withFinalStatement (episodeSettled s.billing.threshold r.episode
      { r.purchases.foldl (fun r id => givenBack r (dueBack s id)) r with purchases := [], state := .closed }) (s.finalPeriod i))
      (countedDown s.events r.purchases)).needFor r.tapPort := by
  unfold State.closeSubscriber
  dsimp only
  rw [emptyPurchases_eq h hwf, settling_settleEpisode h.2.2, requestChange_of_ne hopen, settling_updSub, needFor_settling, needFor_settling,
    settling_updSub, finalised_eq, episodeSettled_closed]

/-- Settles O24. -/
theorem closeSubscriberCloses : Obligations.CloseSubscriberCloses := by
  intro s body i period r r1 r2 hl hb hr hopen hwf hperiod hr1 hr2
  have hfinal : s.finalPeriod i = period := by
    rw [hperiod]
    unfold State.finalPeriod nextPeriod
    split <;> simp_all
  simp only [exec, execCloseSubscriber]
  have hr2' : r2 = episodeSettled s.billing.threshold r.episode r1 := by
    obtain ⟨he, rfl⟩ | ⟨e, he, rfl⟩ := hr2 <;> rw [he] <;> rfl
  rw [request_account hl hb hr, if_neg hopen, closeSubscriber_eq hr hwf hopen, hfinal, ← hr1, ← hr2']
  have hevents : countedDown s.events r.purchases = s.events.map fun (p : Nat × EventRec) =>
      if p.2.state = EventState.scheduled ∨ p.2.state = EventState.opened then (p.1, { p.2 with count := p.2.count - r.purchases.count p.1 })
      else p := by
    refine List.map_congr_left fun p _ => ?_
    dsimp only
    split <;> rfl
  rw [← hevents]
  rfl

end Sys2Proof.Machine
end

section
/-! PROOFS. Taps (chapter 3): the desired setting (O32), the countdowns (O34) and the sweep's visits (O35). -/

namespace Sys2Proof.Machine

variable {s t : State}

/-! ## The desired setting (R47) -/

theorem getLsbD_one_shiftLeft {n k : Nat} (hn : n < 96) : (1#96 <<< k).getLsbD n = decide (n = k) := by
  rw [BitVec.getLsbD_shiftLeft, BitVec.getLsbD_one]
  by_cases h : n = k
  · simp [h]
    omega
  · simp [h]
    omega

/-- Which slots a pass set from slot `k` on holds. -/
theorem getLsbD_passSetFrom (test : Nat → Definition → Bool) (slots : List Slot) (k : Nat) {n : Nat} (hn : n < 96) :
    (passSetFrom test k slots).getLsbD n = (decide (k ≤ n) && (slots[n - k]?).any fun x => test n x.current) := by
  induction slots generalizing k with
  | nil => simp [passSetFrom]
  | cons x slots ih =>
    have hbit : (if test k x.current then 1#96 <<< k else 0#96).getLsbD n = (decide (n = k) && test k x.current) := by
      split
      next h => rw [getLsbD_one_shiftLeft hn, h, Bool.and_true]
      next h => simp [h]
    rw [passSetFrom, BitVec.getLsbD_or, hbit, ih]
    rcases lt_trichotomy n k with h | h | h
    · simp [h.ne, h.not_ge, h.not_gt]
    · subst h
      simp
    · have hindex : n - k = n - (k + 1) + 1 := by omega
      simp [h.ne', h.le, hindex, (by omega : k + 1 ≤ n)]

/-- R47: a port passes the slots that its test admits. -/
theorem getLsbD_passSet (test : Nat → Definition → Bool) (hlen : s.slots.length = 96) {n : Nat} {x : Slot} (hx : s.slots[n]? = some x) :
    (passSetFrom test 0 s.slots).getLsbD n = test n x.current := by
  have hn : n < 96 := hlen ▸ (List.getElem?_eq_some_iff.mp hx).1
  simp [getLsbD_passSetFrom test s.slots 0 hn, hx]

/-- R47, condition 3. -/
theorem State.bought_iff (s : State) (purchases : List Nat) (slot : Nat) : s.bought purchases slot = true ↔
    ∃ id e, id ∈ purchases ∧ s.events.get? id = some e ∧ e.slot = slot ∧ e.state = .opened := by
  unfold State.bought
  rw [List.any_eq_true]
  refine exists_congr fun id => ?_
  cases s.events.get? id <;> simp

/-- R47: the four conditions of an ACTIVE subscriber. -/
theorem State.passesActive_iff (s : State) (r : Subscriber) (slot : Nat) (d : Definition) : s.passesActive r slot d = true ↔
    d.state = .carried ∧ ((d.tier = none ∧ d.pay = false) ∨ (∃ t, d.tier = some t ∧ r.tiers.getLsbD t = true) ∨
      (d.pay = true ∧ ∃ id e, id ∈ r.purchases ∧ s.events.get? id = some e ∧ e.slot = slot ∧ e.state = .opened) ∨ d.lifeline = true) := by
  rw [← State.bought_iff]
  cases h : d.tier <;> simp [State.passesActive, h, or_assoc]

/-- Settles O32. -/
theorem desiredSetting : Obligations.DesiredSetting := by
  intro s p hlen
  refine ⟨fun hp => ?_, fun i r hp hr => ?_⟩
  · simp [State.desired, hp]
  · have hdesired : s.desired p = s.desiredFor r := by simp [State.desired, hp, hr]
    rw [hdesired]
    refine ⟨fun h => ?_, fun h => ⟨_, by simp only [State.desiredFor, h]; rfl, fun n x hx => ?_⟩,
      fun h => ⟨_, by simp only [State.desiredFor, h]; rfl, fun n x hx => ?_⟩⟩
    · obtain h | h | h := h <;> simp [State.desiredFor, h]
    · rw [getLsbD_passSet _ hlen hx]
      simp [passesLapsed]
    · rw [getLsbD_passSet _ hlen hx, State.passesActive_iff]

/-! ## Countdowns (R59) -/

theorem State.countdownRuns_iff (s : State) (i : Nat) (x : Tap) :
    s.countdownRuns i x = true ↔ x.countdown.isSome ∧ (i ∉ s.urgent ∧ i ∉ s.bulk) ∧ x.origin = none := by
  rw [State.countdownRuns, ← State.membership_eq_none]
  simp [Tap.counting, Tap.inFlight, and_assoc]

/-- Settles O34. -/
theorem countdownsRunAndExpire : Obligations.CountdownsRunAndExpire := by
  refine ⟨fun s n later h => ⟨_, by simp only [exec, execTapTableTakesBoundary, h]; rfl, fun i hi => ?_, fun i t ht => ⟨?_, ?_⟩⟩,
    fun s i t ht => ⟨fun hc => ?_, fun hc => ?_⟩⟩
  · rw [Table.get?_mapAll, hi]
    rfl
  · intro k hk hu hb ho
    have hruns : s.countdownRuns i t = true := (s.countdownRuns_iff i t).mpr ⟨by simp [hk], ⟨hu, hb⟩, ho⟩
    rw [Table.get?_mapAll, ht, Option.map_some, if_pos hruns, Tap.counted]
    simp only [hk]
  · intro h
    have hruns : ¬s.countdownRuns i t = true := by
      rw [State.countdownRuns_iff]
      rintro ⟨hc, ⟨hu, hb⟩, ho⟩
      simp_all
    rw [Table.get?_mapAll, ht, Option.map_some, if_neg hruns]
  · simp only [exec, execSilentCountdownExpiry, ht, hc, if_true]
    rfl
  · simp only [exec, execSilentCountdownExpiry, ht, hc, if_false]

/-! ## Sweeps (R63, R64) -/

/-- R64, step 1. -/
theorem State.passedOver_iff (s : State) (scope : Scope) (x : Tap) : s.passedOver scope x = true ↔
    (∃ es, scope = .subtrees es ∧ ∀ e ∈ es, s.under e x.feeding = false) ∨ (∀ p ∈ x.ports, p.subscriber = none) ∨ x.countdown.isSome := by
  cases scope <;> simp [State.passedOver, State.covers, Tap.counting, or_assoc]

theorem State.sweepTap_passedOver {scope : Scope} {i : Nat} {x : Tap} (hx : s.taps.get? i = some x) (h : s.passedOver scope x = true) :
    s.sweepTap scope i = s := by
  simp [State.sweepTap, hx, h]

/-- R64, steps 2 and 3, on a tap that is not passed over; `cleared` is the tap that step 2 leaves. -/
theorem State.sweepTap_visited {scope : Scope} {i : Nat} {x cleared : Tap} (hwf : s.taps.wf = true) (hx : s.taps.get? i = some x)
    (h : s.passedOver scope x = false) (hc : cleared = if scope.clearing then x.forgotten else x) :
    s.sweepTap scope i = (if cleared.ports.all fun p => p.confirmed = some (s.desired p)
      then { s with taps := s.taps.modify i fun _ => cleared }
      else { s with taps := s.taps.modify i fun _ => cleared }.need .bulk i) := by
  have hset : (s.updTap i fun t => if scope.clearing then t.forgotten else t) = { s with taps := s.taps.modify i fun _ => cleared } := by
    rw [State.updTap, Table.modify_eq_const hwf hx, hc]
  have hunsettled : State.unsettled { s with taps := s.taps.modify i fun _ => cleared } cleared =
      !(cleared.ports.all fun p => decide (p.confirmed = some (s.desired p))) := by
    rw [State.unsettled, List.not_all_eq_any_not]
    simp only [decide_not]
    rfl
  simp only [State.sweepTap, hx, h, Bool.false_eq_true, if_false, hset, ← hc, hunsettled]
  cases cleared.ports.all fun p => decide (p.confirmed = some (s.desired p)) <;> rfl

theorem State.sweepTap_sweep (s : State) (scope : Scope) (i : Nat) : (s.sweepTap scope i).scopes = s.scopes := by simp

/-- Settles O35. -/
theorem sweepVisitsItsNextIndex : Obligations.SweepVisitsItsNextIndex := by
  intro s w hw hnext hwf
  refine ⟨s.sweepTap w.scope w.next, ?_, fun hnone => ?_, fun x hx => ⟨fun h => ?_, fun cleared hcleared hbound hcount => ?_⟩⟩
  · have hscopes := s.sweepTap_sweep w.scope w.next
    simp only [exec, execSweepVisit, hw]
    split
    · rw [← hscopes]
    · rw [State.afterSweep, hscopes]
  · simp [State.sweepTap, hnone]
  · exact State.sweepTap_passedOver hx ((s.passedOver_iff w.scope x).mpr h)
  · have hclear : cleared = if w.scope.clearing then x.forgotten else x := by
      obtain ⟨h, rfl⟩ | ⟨⟨es, h, -⟩, rfl⟩ := hcleared <;> rw [h] <;> rfl
    have hvisited : s.passedOver w.scope x = false := by
      rw [← Bool.not_eq_true, State.passedOver_iff]
      obtain ⟨p, hp, hps⟩ := hbound
      rintro (⟨es, hes, hunder⟩ | hports | hc)
      · obtain ⟨h, -⟩ | ⟨⟨es', h, e, he, hu⟩, -⟩ := hcleared
        · simp [h] at hes
        · obtain rfl : es' = es := by simpa [h] using hes
          simp [hunder e he] at hu
      · simp [hports p hp] at hps
      · simp [hcount] at hc
    rw [State.sweepTap_visited hwf hx hvisited hclear]
    refine ⟨fun hall => ?_, fun ⟨p, hp, hne⟩ => ?_⟩
    · rw [if_pos (by simpa using hall)]
    · rw [if_neg]
      simpa using ⟨p, hp, hne⟩

end Sys2Proof.Machine
end

section
/-! PROOFS. The requests on taps (O33) and on channel slots and tiers (O29), and the Line-Up Table's boundary (O31). -/

namespace Sys2Proof.Machine

variable {s t : State} {body : List Byte}

/-! ## Bytes of settings and scopes (R65, R181) -/

theorem passByte_eq (pass : BitVec 96) (k : Nat) :
    passByte pass k = BitVec.ofNat 8 ((List.range 8).map fun j => if pass.getLsbD (8 * k + j) then 2 ^ (7 - j) else 0).sum := by
  have hrange : List.range 8 = [0, 1, 2, 3, 4, 5, 6, 7] := rfl
  have hbit (c : Bool) (m : Nat) : (if c then 2 ^ m else 0) = (if c then 1 else 0) * 2 ^ m := by cases c <;> simp
  simp only [passByte, hrange, List.foldl_cons, List.foldl_nil, List.map_cons, List.map_nil, List.sum_cons, List.sum_nil, hbit,
    Nat.reduceSub, Nat.reducePow]
  refine congrArg _ ?_
  ring

theorem settingBytes_eq (x : Setting) : settingBytes x = settingOctets x := by
  cases x with
  | off => rfl
  | on pass =>
    simp only [settingBytes, settingOctets, passBytes, w8, List.singleton_append]
    exact congrArg _ (List.map_congr_left fun k _ => passByte_eq pass k)

theorem scopesBytes_eq (x : Option Scope) : scopesBytes x = scopeOctets x := by
  rcases x with _ | _ | es
  · rfl
  · rfl
  · have hmap : es.flatMap w8 = es.map fun e => BitVec.ofNat 8 e := List.flatMap_pure_eq_map (fun e => BitVec.ofNat 8 e) es
    rw [scopesBytes, hmap]
    rfl

/-! ## The requests on taps (R44 to R46, R61, R65) -/

theorem State.withTap_holds {i : Nat} {x : Tap} (hi : i ≤ 511) (hx : s.taps.get? i = some x) (rest : Tap → Served) : s.withTap i rest = rest x := by
  simp [State.withTap, hi.not_gt, hx]

/-- R44, R89: a field address that no tap and no element has. -/
theorem State.addressTaken_eq_false {address : Nat} (ht : ∀ i t, (i, t) ∈ s.taps → t.address ≠ address)
    (hx : ∀ i x, (i, x) ∈ s.elements → x.address ≠ address) : s.addressTaken address = false := by
  simp only [State.addressTaken, Bool.or_eq_false_iff, List.any_eq_false, beq_iff_eq]
  exact ⟨fun p hp => ht p.1 p.2 hp, fun p hp => hx p.1 p.2 hp⟩

theorem enrolTapOwner_eq (ha0 : u16 body 0 ≠ 0) (ha : u16 body 0 ≠ 65535) (hf : u8 body 2 ≤ 127) (hfree : s.addressTaken (u16 body 0) = false)
    (hroom : s.taps.length < 512) {e : Element} (he : s.elements.get? (u8 body 2) = some e) : enrolTapOwner body s =
      State.served { s with taps := s.taps.set s.taps.lowestFree (newTap (u16 body 0) (u8 body 2)) } (w16 s.taps.lowestFree) := by
  simp [enrolTapOwner, addressOk, ha0, ha, hf.not_gt, hfree, hroom.not_ge, he]

theorem portBody_eq (s : State) (p : TapPort) : s.portBody p =
    (match p.subscriber.bind fun i => s.subs.get? i with | none => List.replicate 5 0#8 | some r => w8 1 ++ w32 r.account)
      ++ (match p.confirmed with | none => List.replicate 14 0#8 | some x => w8 1 ++ settingOctets x) ++ settingOctets (s.desired p) := by
  have haccount : wopt 4 w32 (s.boundAccount p) =
      match p.subscriber.bind fun i => s.subs.get? i with | none => List.replicate 5 0#8 | some r => w8 1 ++ w32 r.account := by
    unfold State.boundAccount
    cases p.subscriber with
    | none => rfl
    | some i =>
      simp only [Option.bind_some]
      cases s.subs.get? i <;> rfl
  rw [State.portBody, haccount, settingBytes_eq]
  cases p.confirmed with
  | none => rfl
  | some x =>
    simp only [wopt, settingBytes_eq]

theorem State.held_of_element {i : Nat} {x : Tap} {e : Element} (hx : s.taps.get? i = some x) (he : s.elements.get? x.feeding = some e) :
    s.held i = !e.state.reachable := by
  simp [State.held, hx, State.feedReachable, he]

theorem membershipCode_eq (s : State) (i : Nat) :
    membershipCode (s.membership i) = if i ∈ s.urgent then 1 else if i ∈ s.bulk then 2 else 0 := by
  by_cases hu : i ∈ s.urgent
  · simp [State.membership, hu, membershipCode]
  · by_cases hb : i ∈ s.bulk <;> simp [State.membership, hu, hb, membershipCode]

theorem ElementState.reachable_iff (x : ElementState) : x.reachable = true ↔ x = .up ∨ x = .suspect := by cases x <;> simp [reachable]

/-- Settles O33. -/
theorem tapRequests : Obligations.TapRequests := by
  refine ⟨⟨fun s body e hl hb ha0 ha hf htaps helements hroom hwf he => ?_, fun s body x hl hb hi hx hports ho => ?_, fun s body x hl hb hi hx => ?_⟩,
    fun s body x e hl hb hi hx he => ?_, fun s hl => ?_⟩
  · refine ⟨s.taps.lowestFree, s.taps.set s.taps.lowestFree (newTap (u16 body 0) (u8 body 2)), ?_, Table.get?_lowestFree hwf,
      fun j hj => Table.get?_isSome_of_lt_lowestFree hj, fun j hj => ?_, Table.get?_set_self ..⟩
    · simp only [exec, execEnrolTap, request_owner_both hl hb]
      rw [enrolTapOwner_eq ha0 ha hf (State.addressTaken_eq_false htaps helements) hroom he]
      rfl
    · rw [Table.get?_set, if_neg hj.symm]
  · have hbound : (x.ports.any fun p => p.subscriber.isSome) = false := by
      rw [List.any_eq_false]
      exact fun p hp => by simp [hports p hp]
    simp only [exec, execRetireTap, request_owner_both hl hb, retireTapOwner, State.withTap_holds hi hx, hbound, Tap.inFlight, ho,
      Option.isSome_none, Bool.false_eq_true, if_false]
    split <;> rfl
  · simp only [exec, execResendTap, request_owner_both hl hb, resendTapOwner, State.withTap_holds hi hx]
    rfl
  · have hleg : s.legOf x.feeding = e.leg := by simp [State.legOf, he]
    have hheld : ((s.membership (u16 body 0)).isSome && s.held (u16 body 0)) =
        decide ((u16 body 0 ∈ s.urgent ∨ u16 body 0 ∈ s.bulk) ∧ ¬(e.state = .up ∨ e.state = .suspect)) := by
      rw [State.held_of_element hx he, Bool.eq_iff_iff]
      have hmember : (s.membership (u16 body 0)).isSome = true ↔ u16 body 0 ∈ s.urgent ∨ u16 body 0 ∈ s.bulk := by
        rw [Option.isSome_iff_ne_none, ne_eq, State.membership_eq_none]
        tauto
      simp [hmember, ← ElementState.reachable_iff]
    simp only [exec, execReadTap, request_owner_both hl hb, State.withTap_holds hi hx]
    refine congrArg _ (congrArg (State.replied s 2) (congrArg (Response.mk .ok) ?_))
    have hstate : x.state.code = if x.state = .silent then 1 else 0 := by cases x.state <;> rfl
    have hlid : x.lid.code = if x.lid = .opened then 1 else 0 := by cases x.lid <;> rfl
    have hports : x.ports.flatMap s.portBody = x.ports.flatMap fun (p : TapPort) =>
        (match p.subscriber.bind fun i => s.subs.get? i with | none => List.replicate 5 0#8 | some r => w8 1 ++ w32 r.account)
        ++ (match p.confirmed with | none => List.replicate 14 0#8 | some x => w8 1 ++ settingOctets x)
        ++ settingOctets (s.desired p) := congrArg (List.flatMap · x.ports) (funext (portBody_eq s))
    rw [State.tapBody, hleg, membershipCode_eq, hheld, hstate, hlid, hports]
    cases x.countdown <;> simp [wopt, wflag, Tap.inFlight] <;> rfl
  · simp only [exec, execReadSwitching]
    rw [request_owner_both (length := 0) (body := []) hl rfl]
    refine congrArg _ (congrArg (State.replied s 0) (congrArg (Response.mk .ok) ?_))
    rw [State.switchingBody, scopesBytes_eq]
    cases s.sweep with
    | none => simp [wopt, Tap.inFlight] <;> rfl
    | some w => simp [wopt, Tap.inFlight, scopesBytes_eq]

end Sys2Proof.Machine
end

section
/-! PROOFS. The requests on channel slots and tiers (O29), and the Line-Up Table's boundary (O31). -/

namespace Sys2Proof.Machine

variable {s t u : State} {body : List Byte}

/-! ## Requests (R26 to R30, R34, R39, R40, R42) -/

/-- R26: the definition that a body gives at an offset of 1. -/
theorem definitionAt_of_wellDefined {d : Definition} (h : wellDefined body d) : definitionAt body 1 = some d := by
  obtain ⟨state, tier, hstate, htier, hflags, rfl⟩ := h
  have hboth : ((body.getD 11 0#8).getLsbD 0 && (body.getD 11 0#8).getLsbD 1) = false := by
    rw [← Bool.not_eq_true, Bool.and_eq_true]
    exact hflags
  simp only [definitionAt, Nat.reduceAdd, hstate, htier, hboth, Bool.false_eq_true, if_false]
  cases state <;> rfl

/-- R27: the live-event test. -/
theorem State.passesLive_iff (s : State) (slot : Nat) (d : Definition) (n : Option Nat) : s.passesLive slot d n = true ↔
    (d.state = .carried ∧ d.pay = true) ∨
      ∀ id e, (id, e) ∈ s.events → e.slot = slot → e.state ≠ .scheduled ∧ (e.state = .opened → some e.closeMinute = n) := by
  simp only [State.passesLive, State.liveEvent, Bool.or_eq_true, Bool.and_eq_true, decide_eq_true_eq, Bool.not_eq_true', List.any_eq_false,
    Prod.forall, beq_iff_eq, not_and, not_or]
  refine or_congr Iff.rfl (forall_congr' fun id => forall_congr' fun e => forall_congr' fun _ => forall_congr' fun _ => and_congr Iff.rfl ?_)
  tauto

theorem State.passesLive_of {slot : Nat} {d : Definition} (h : (d.state = .carried ∧ d.pay = true) ∨ noLiveEvent s slot) :
    s.passesLive slot d none = true := by
  rw [State.passesLive_iff]
  refine h.imp_right fun h id e he hs => ⟨(h id e he hs).1, fun ho => absurd ho (h id e he hs).2⟩

theorem State.stagedAt_eq {i : Nat} {x : Slot} (hx : s.slots[i]? = some x) : s.stagedAt i = x.staged := by simp [State.stagedAt, hx]

/-- Settles O29. -/
theorem lineUpRequests : Obligations.LineUpRequests := by
  refine ⟨⟨fun s body d hl hm hb hslot hd hlive => ?_, fun s body d x hl hb hslot hx hd hlive => ?_,
      fun s body x hl hb hslot hx => ⟨fun hstaged => ?_, fun hstaged => ?_⟩⟩,
    fun s body x hl hb hslot hx => ?_, fun s body hl hm hb htier => ?_, fun s body x hl hm hb htier hx => ?_, fun s body x hl hb htier hx => ?_⟩
  · simp only [exec, execDefineChannel]
    rw [request_owner hl hb (by simp [Modes.allow, hm])]
    simp only [defineChannelOwner, if_neg hslot.not_gt, definitionAt_of_wellDefined hd, State.passesLive_of hlive, Bool.not_true,
      Bool.false_eq_true, if_false]
    rfl
  · simp only [exec, execStageChannelChange]
    rw [request_owner_both hl hb]
    simp only [stageChannelOwner, if_neg hslot.not_gt, definitionAt_of_wellDefined hd, State.passesLive_of hlive, Bool.not_true,
      Bool.false_eq_true, if_false, State.stagedAt_eq hx]
    simp only [wflag, decide_eq_true_eq]
    rfl
  · simp only [exec, execWithdrawStagedChange]
    rw [request_owner_both hl hb, withdrawStagedOwner, if_neg hslot.not_gt, State.stagedAt_eq hx, if_neg (by simpa [Option.isSome_iff_ne_none] using hstaged)]
    rfl
  · simp only [exec, execWithdrawStagedChange]
    rw [request_owner_both hl hb, withdrawStagedOwner, if_neg hslot.not_gt, State.stagedAt_eq hx, if_pos (by simp [hstaged])]
    rfl
  · simp only [exec, execReadChannel, request_owner_both hl hb, readChannelOwner, hx, if_neg hslot.not_gt]
    refine congrArg _ (congrArg (State.replied s 1) (congrArg (Response.mk .ok) ?_))
    rw [channelBody]
    cases x.staged <;> cases x.lastStage <;> simp [wopt, wflag, wstage] <;> rfl
  · simp only [exec, execDefineTier]
    rw [request_owner hl hb (by simp [Modes.allow, hm]), if_neg htier.not_gt]
    rfl
  · simp only [exec, execStageTierRate]
    rw [request_owner hl hb (by simp [Modes.allow, hm]), if_neg htier.not_gt, State.stagedRate, hx]
    rfl
  · simp only [exec, execReadTier, request_owner_both hl hb, readTierOwner, hx, if_neg htier.not_gt]
    refine congrArg _ (congrArg (State.replied s 1) (congrArg (Response.mk .ok) ?_))
    rw [tierBody]
    cases x.staged <;> simp [wopt] <;> rfl

/-! ## Sweep requests in turn -/

/-- A number of sweep requests of scope ALL. -/
def State.sweeps (m : Nat) (s : State) : State := (fun u : State => u.requestSweep .all)^[m] s

theorem State.sweeps_succ (m : Nat) (s : State) : s.sweeps (m + 1) = (s.sweeps m).requestSweep .all := Function.iterate_succ_apply' ..

/-- A sweep request writes the taps, the sweep and the scopes. -/
theorem State.requestSweep_eq (s : State) (r : SweepRequest) : s.requestSweep r = { s with
    taps := (s.requestSweep r).taps, sweep := (s.requestSweep r).sweep, scopes := (s.requestSweep r).scopes } := by
  obtain ⟨_, _, _, _, _, _, _, _, _, _, _, sweep, scopes⟩ := s
  unfold State.requestSweep State.mergeScope
  cases sweep with
  | none => rfl
  | some w => rcases scopes with _ | _ | es <;> cases r <;> dsimp only <;> (repeat' split) <;> rfl

theorem State.sweeps_eq (m : Nat) (s : State) : s.sweeps m = { s with
    taps := (s.sweeps m).taps, sweep := (s.sweeps m).sweep, scopes := (s.sweeps m).scopes } := by
  induction m with
  | zero => rfl
  | succ m ih =>
    rw [State.sweeps_succ, State.requestSweep_eq, ih]

/-- What a sweep request reads is the taps, the elements, the sweep and the scopes. -/
theorem State.requestSweep_withSlots (s : State) (slots : List Slot) (announced : Announced) (r : SweepRequest) :
    ({ s with slots := slots, announced := announced } : State).requestSweep r = { s.requestSweep r with slots := slots, announced := announced } := by
  obtain ⟨_, _, _, _, _, _, _, _, _, _, _, sweep, scopes⟩ := s
  unfold State.requestSweep State.mergeScope
  cases sweep with
  | none => rfl
  | some w => rcases scopes with _ | _ | es <;> cases r <;> dsimp only <;> (repeat' split) <;> rfl

theorem State.sweeps_withSlots (m : Nat) (s : State) (slots : List Slot) (announced : Announced) :
    State.sweeps m { s with slots := slots, announced := announced } = { s.sweeps m with slots := slots, announced := announced } := by
  induction m with
  | zero => rfl
  | succ m ih => rw [State.sweeps_succ, ih, State.requestSweep_withSlots, State.sweeps_succ]

/-- Where no scope is pending, requests of scope ALL clear no tap. -/
theorem State.sweeps_taps (hp : s.scopes = none) (m : Nat) : (s.sweeps m).taps = s.taps ∧
    ((s.sweeps m).scopes = none ∨ (s.sweeps m).scopes = some .all) := by
  induction m with
  | zero => exact ⟨rfl, .inl hp⟩
  | succ m ih =>
    obtain ⟨htaps, hscopes⟩ := ih
    rw [State.sweeps_succ, ← htaps]
    cases hw : (s.sweeps m).sweep with
    | none => simp [State.requestSweep, hw, hscopes]
    | some w =>
      obtain hscopes | hscopes := hscopes <;> simp [State.requestSweep, hw, State.mergeScope, hscopes]

/-! ## One slot at a boundary (R31 to R33) -/

/-- R32: a slot after the boundary into minute `n`. -/
def State.slotAfter (s : State) (n i : Nat) (x : Slot) : Slot :=
  match x.staged with
  | none => x
  | some g => if n < g.effective then x else x.fallDue g n (s.passesLive i g.defn (some n))

/-- R32: the boundary into minute `n` applies the slot's staged change. -/
def State.applies (s : State) (n i : Nat) : Bool :=
  match s.stagedAt i with
  | none => false
  | some g => !decide (n < g.effective) && s.passesLive i g.defn (some n)

theorem modify_congr {α : Type} {l : List α} {i : Nat} {x : α} (hx : l[i]? = some x) {f g : α → α} (hf : f x = g x) :
    l.modify i f = l.modify i g := by
  refine List.ext_getElem? fun j => ?_
  rw [List.getElem?_modify, List.getElem?_modify]
  by_cases h : i = j
  · subst h
    simp [hx, hf]
  · simp [h]

theorem modify_eq_self_of_fixed {α : Type} {l : List α} {i : Nat} {x : α} (hx : l[i]? = some x) {f : α → α} (hf : f x = x) : l.modify i f = l :=
  (modify_congr hx (g := id) hf).trans (List.modify_id i l)

/-- A slot's boundary: its slot, and a sweep request where a change is applied. -/
theorem State.slotBoundary_eq (s : State) (n i : Nat) : s.slotBoundary n i =
    State.sweeps (if s.applies n i then 1 else 0) { s with slots := s.slots.modify i (s.slotAfter n i) } := by
  cases hx : s.slots[i]? with
  | none =>
    have hstaged : s.stagedAt i = none := by simp [State.stagedAt, hx]
    have hslots : s.slots.modify i (s.slotAfter n i) = s.slots := List.modify_eq_self (List.getElem?_eq_none_iff.mp hx)
    simp [State.slotBoundary, State.applies, hstaged, hslots, State.sweeps]
  | some x =>
    have hstaged : s.stagedAt i = x.staged := State.stagedAt_eq hx
    cases hg : x.staged with
    | none =>
      have hslots : s.slots.modify i (s.slotAfter n i) = s.slots := modify_eq_self_of_fixed hx (by simp [State.slotAfter, hg])
      simp [State.slotBoundary, State.applies, hstaged, hg, hslots, State.sweeps]
    | some g =>
      by_cases hn : n < g.effective
      · have hslots : s.slots.modify i (s.slotAfter n i) = s.slots := modify_eq_self_of_fixed hx (by simp [State.slotAfter, hg, hn])
        simp [State.slotBoundary, State.applies, hstaged, hg, hn, hslots, State.sweeps]
      · have hslots : s.slots.modify i (s.slotAfter n i) = s.slots.modify i fun x => x.fallDue g n (s.passesLive i g.defn (some n)) :=
          modify_congr hx (by simp [State.slotAfter, hg, hn])
        simp only [State.slotBoundary, State.applies, hstaged, hg, hn, hslots, State.sweeps, State.updSlot]
        cases s.passesLive i g.defn (some n) <;> rfl

/-! ## Every slot -/

/-- The slots after a boundary has reached the slots below `k`. -/
def State.slotsBelow (s : State) (n k : Nat) : List Slot := s.slots.mapIdx fun i x => if i < k then s.slotAfter n i x else x

theorem slotsBelow_getElem? (s : State) (n k i : Nat) :
    (s.slotsBelow n k)[i]? = (s.slots[i]?).map fun x => if i < k then s.slotAfter n i x else x := List.getElem?_mapIdx

/-- The number of changes applied to the slots below `k`. -/
def State.appliedBelow (s : State) (n k : Nat) : Nat := ((List.range k).filter (s.applies n)).length

theorem slotsBelow_succ (s : State) (n k : Nat) : (s.slotsBelow n k).modify k (s.slotAfter n k) = s.slotsBelow n (k + 1) := by
  refine List.ext_getElem? fun i => ?_
  rw [List.getElem?_modify, slotsBelow_getElem?, slotsBelow_getElem?]
  cases s.slots[i]? with
  | none => rfl
  | some x =>
    rcases lt_trichotomy k i with h | rfl | h
    · simp [h.ne, h.not_gt, h.not_ge]
    · simp
    · simp [h.ne', h, (by omega : i < k + 1)]

theorem sweeps_sweeps (a b : Nat) (s : State) : State.sweeps a (s.sweeps b) = s.sweeps (b + a) := by
  rw [State.sweeps, State.sweeps, State.sweeps, Nat.add_comm, Function.iterate_add_apply]

/-- R31: slot by slot. -/
theorem foldl_slotBoundary (s : State) (n k : Nat) (announced : Announced) :
    (List.range k).foldl (fun u i => u.slotBoundary n i) { s with announced := announced } =
      { s.sweeps (s.appliedBelow n k) with slots := s.slotsBelow n k, announced := announced } := by
  induction k with
  | zero =>
    have hslots : s.slotsBelow n 0 = s.slots := List.ext_getElem? fun i => by simp [slotsBelow_getElem?]
    rw [hslots]
    rfl
  | succ k ih =>
    have hat : (s.slotsBelow n k)[k]? = s.slots[k]? := by
      rw [slotsBelow_getElem?]
      simp
    have hevents : (s.sweeps (s.appliedBelow n k)).events = s.events := by rw [State.sweeps_eq]
    have hpasses (d : Definition) : ({ s.sweeps (s.appliedBelow n k) with slots := s.slotsBelow n k, announced := announced } : State).passesLive k d
        (some n) = s.passesLive k d (some n) := by
      simp only [State.passesLive, State.liveEvent, hevents]
    have hafter : ({ s.sweeps (s.appliedBelow n k) with slots := s.slotsBelow n k, announced := announced } : State).slotAfter n k =
        s.slotAfter n k := by
      funext x
      simp only [State.slotAfter, hpasses]
    have happlies : ({ s.sweeps (s.appliedBelow n k) with slots := s.slotsBelow n k, announced := announced } : State).applies n k =
        s.applies n k := by
      simp only [State.applies, State.stagedAt, hat, hpasses]
    have hcount : s.appliedBelow n (k + 1) = s.appliedBelow n k + if s.applies n k then 1 else 0 := by
      simp only [State.appliedBelow, List.range_succ, List.filter_append, List.length_append]
      cases h : s.applies n k <;> simp [h]
    rw [List.range_succ, List.foldl_append, ih, List.foldl_cons, List.foldl_nil, State.slotBoundary_eq, hafter, happlies, slotsBelow_succ]
    refine (State.sweeps_withSlots _ (s.sweeps (s.appliedBelow n k)) _ announced).trans ?_
    rw [sweeps_sweeps, hcount]

/-- R32: which changes are applied, as the slots show after the boundary. -/
theorem applies_iff (s : State) {n i : Nat} (hi : i < 96) : s.applies n i = (match s.slots[i]?, (s.slotsBelow n 96)[i]? with
    | some x, some y => x.staged.isSome && y.staged.isNone && decide (y.lastStage = .applied n)
    | _, _ => false) := by
  cases hx : s.slots[i]? with
  | none => simp [State.applies, State.stagedAt, hx]
  | some x =>
    rw [slotsBelow_getElem?, hx]
    simp only [Option.map_some, hi, if_true, State.applies, State.stagedAt, hx, State.slotAfter]
    cases hg : x.staged with
    | none => rfl
    | some g =>
      by_cases hn : n < g.effective
      · simp [hn, hg]
      · cases hpass : s.passesLive i g.defn (some n) <;> simp [hn, hpass, Slot.fallDue]

/-- R31: the whole boundary. -/
theorem exec_lineupTakesBoundary {n : Nat} {later : List Nat} (h : s.announced.lineUp = n :: later) : exec .lineupTakesBoundary s =
    .next { s.sweeps (s.appliedBelow n 96) with slots := s.slotsBelow n 96, announced := { s.announced with lineUp := later } } := by
  simp only [exec, execLineupTakesBoundary, h, foldl_slotBoundary]

/-- Settles O31. -/
theorem lineUpTakesABoundary : Obligations.LineUpTakesABoundary := by
  intro s n later hannounced hlen
  have happlied : ((List.range 96).filter fun i => match s.slots[i]?, (s.slotsBelow n 96)[i]? with
      | some x, some y => x.staged.isSome && y.staged.isNone && decide (y.lastStage = .applied n)
      | _, _ => false).length = s.appliedBelow n 96 := by
    rw [State.appliedBelow]
    exact congrArg _ (List.filter_congr fun i hi => (applies_iff s (List.mem_range.mp hi)).symm)
  refine ⟨_, exec_lineupTakesBoundary hannounced, rfl, ?_, fun i x hx => ?_, fun hnone => ?_,
    fun applied h u hu => ?_, fun _ hp => (State.sweeps_taps hp _).1, ?_⟩
  · simp [State.slotsBelow, hlen]
  · have hi : i < 96 := hlen ▸ (List.getElem?_eq_some_iff.mp hx).1
    have hafter : (s.slotsBelow n 96)[i]? = some (s.slotAfter n i x) := by simp [slotsBelow_getElem?, hx, hi]
    refine ⟨fun h => ?_, fun g hg hn => ?_, fun g hg hn hpass => ?_, fun g hg hn hpay ⟨id, e, he, hslot, hlive⟩ => ?_⟩
    · exact hafter.trans (by simp [State.slotAfter, h])
    · exact hafter.trans (by simp [State.slotAfter, hg, hn])
    · have hpasses : s.passesLive i g.defn (some n) = true := (s.passesLive_iff i g.defn (some n)).mpr (by simpa using hpass)
      exact hafter.trans (by simp [State.slotAfter, hg, hn.not_gt, hpasses, Slot.fallDue])
    · have hpasses : s.passesLive i g.defn (some n) = false := by
        rw [← Bool.not_eq_true, State.passesLive_iff]
        rintro (h | h)
        · exact hpay h
        · obtain ⟨hscheduled, hopened⟩ := h id e he hslot
          obtain hlive | ⟨hlive, hclose⟩ := hlive
          · exact hscheduled hlive
          · exact hclose (Option.some.inj (hopened hlive))
      exact hafter.trans (by simp [State.slotAfter, hg, hn.not_gt, hpasses, Slot.fallDue])
  · have hnever (i : Nat) : s.applies n i = false := by
      unfold State.applies State.stagedAt
      cases hx : s.slots[i]? with
      | none => rfl
      | some x =>
        cases hg : x.staged with
        | none => simp [hg]
        | some g => simp [hg, hnone i x g hx hg]
    have hslots : s.slotsBelow n 96 = s.slots := by
      refine List.ext_getElem? fun i => ?_
      rw [slotsBelow_getElem?]
      cases hx : s.slots[i]? with
      | none => rfl
      | some x =>
        cases hg : x.staged with
        | none => simp [State.slotAfter, hg]
        | some g => simp [State.slotAfter, hg, hnone i x g hx hg]
    have hcount : s.appliedBelow n 96 = 0 := by simp [State.appliedBelow, hnever]
    rw [hslots, hcount]
    rfl
  · obtain rfl : applied = s.appliedBelow n 96 := h.trans happlied
    subst hu
    exact ⟨rfl, rfl, rfl⟩
  · rw [State.sweeps_eq]

end Sys2Proof.Machine
end

section
/-! PROOFS. The plant link (chapter 4): its two requests (O36), the work a leg takes (O37), and the ends of frames and of poll cycles (O38). -/

namespace Sys2Proof.Machine

variable {s t : State} {leg : Nat} {l : Leg} {body : List Byte}

/-! ## The requests (R84 to R86) -/

/-- R84: parameters that pass the tests. -/
theorem linkParamsAt_eq {rate : Rate} (hrate : rateOf (u8 body 0) = some rate) (hlow : 20 ≤ u16 body 1) (hhigh : u16 body 1 ≤ 2000)
    (h9600 : rate = .r9600 → 64 ≤ u16 body 1) (h19200 : rate = .r19200 → 32 ≤ u16 body 1) (hretry : u8 body 3 ≤ 7) (hcycle : 5 ≤ u8 body 4)
    (hsilent : 1 ≤ u8 body 5) : linkParamsAt body = some ⟨rate, u16 body 1, u8 body 3, u8 body 4, u8 body 5⟩ := by
  have hshort : ¬((rate = .r9600 ∧ u16 body 1 < 64) ∨ (rate = .r19200 ∧ u16 body 1 < 32)) := by
    rintro (⟨h, hlt⟩ | ⟨h, hlt⟩)
    · exact absurd (h9600 h) (by omega)
    · exact absurd (h19200 h) (by omega)
  simp only [linkParamsAt, hrate]
  rw [if_neg (by omega), if_neg hshort, if_neg (by omega), if_neg (by omega), if_neg (by omega)]

/-- R85: a leg after a new bit rate. -/
theorem takesRate_eq (l : Leg) (rate : Rate) : l.takesRate rate = { l with
    rate := if l.txn.isNone then rate else l.rate
    measured := if l.txn.isNone ∧ l.rate ≠ rate then 0 else l.measured } := by
  rcases l with ⟨_, _ | w, _, _, _, old⟩
  · by_cases h : old = rate <;> simp [Leg.takesRate, Leg.atRate, h]
  · simp [Leg.takesRate]

/-- Settles O36. -/
theorem linkParametersAndReadLeg : Obligations.LinkParametersAndReadLeg := by
  refine ⟨fun s body rate timeout hl hb hrate htimeout hlow hhigh h9600 h19200 hretry hcycle hsilent => ?_, fun s body l hl hb hleg hx => ?_⟩
  · subst htimeout
    simp only [exec, execSetLinkParameters, request_owner_both hl hb, setLinkOwner,
      linkParamsAt_eq hrate hlow hhigh h9600 h19200 hretry hcycle hsilent, takesRate_eq]
    rfl
  · have howner : readLegOwner body s =
        State.served { s with legs := (if u8 body 1 = 0 then s.legs else s.legs.set (u8 body 0) { l with counters := ⟨0, 0, 0, 0, 0, 0, 0⟩ }) }
          (s.legBody (u8 body 0) l) := by
      simp only [readLegOwner, hx, if_neg hleg.not_gt, flagAt]
      by_cases h : u8 body 1 = 0
      · simp [h]
      · simp [h, State.countLeg, State.updLeg_of_leg hx, LegCounters.zero]
    simp only [exec, execReadLeg, request_owner_both hl hb, howner]
    refine congrArg _ (congrArg (State.replied _ 2) (congrArg (Response.mk .ok) ?_))
    have hactivity : l.activity.code = (match l.activity with | .idle => 0 | .transmitting => 1 | .awaiting => 2) := by cases l.activity <;> rfl
    have hrate (r : Rate) : r.code = (match r with | .r9600 => 0 | .r19200 => 1 | .r38400 => 2) := by cases r <;> rfl
    have htxn : wopt 8 (transactionBytes l.tag) l.txn = (match l.txn with
          | none => List.replicate 9 0#8
          | some ⟨.tap i tries q _, address⟩ =>
            w8 1 ++ w8 0 ++ w16 i ++ w8 tries ++ w8 (match q with | .urgent => 0 | .bulk => 1) ++ w16 address ++ w8 l.tag
          | some ⟨.poll e priority _, address⟩ => w8 1 ++ w8 1 ++ w8 e ++ w8 (if priority then 1 else 0) ++ w16 address ++ w8 l.tag) := by
      rcases l.txn with _ | ⟨⟨i, tries, q, built⟩ | ⟨e, priority, retired⟩, address⟩
      · rfl
      · cases q <;> rfl
      · rfl
    have hfault (rest : List Byte) : wflag l.fault.isSome ++ (wopt 5 wstamp l.fault ++ rest) =
        (match l.fault with | none => List.replicate 7 0#8 | some at_ => w8 1 ++ w8 1 ++ w32 at_.minute ++ w8 at_.second) ++ rest := by
      cases l.fault <;> rfl
    have htimer : wopt 1 (fun ms => w8 (secondsLeft ms)) l.pollTimer =
        (match l.pollTimer with | none => [0#8, 0#8] | some ms => w8 1 ++ w8 ((ms + 999) / 1000)) := by
      cases l.pollTimer <;> rfl
    simp only [State.legBody, linkBytes, countersBytes, List.append_assoc, hactivity, hrate, htxn, hfault, htimer] <;> rfl

/-! ## Taking work (R50, R52, R72, R76, R77) -/

theorem transmit_eq (hl : s.legs[leg]? = some l) (work : Work) (address : Nat) (kind : Byte) (frame : List Byte) :
    s.transmit leg work address kind frame = { s with legs := s.legs.set leg (sent s l work address kind frame) } :=
  State.updLeg_of_leg hl _

theorem eligible_iff (s : State) (leg i : Nat) : s.eligible leg i = true ↔ offered s leg i := by
  unfold State.eligible offered
  cases s.taps.get? i with
  | none => simp
  | some x =>
    cases h : s.elements.get? x.feeding with
    | none => simp [h]
    | some e => simp [h, ElementState.reachable_iff]

/-- R72, steps 2 and 4: the first entry of a queue that is offered. -/
theorem find?_eligible {queue ahead behind : List Nat} {i : Nat} (hq : queue = ahead ++ i :: behind) (hahead : ∀ j ∈ ahead, ¬offered s leg j)
    (hi : offered s leg i) : queue.find? (s.eligible leg) = some i := by
  refine List.find?_eq_some_iff_append.mpr ⟨(eligible_iff s leg i).mpr hi, ahead, behind, hq, fun j hj => ?_⟩
  rw [Bool.not_eq_true', ← Bool.not_eq_true, eligible_iff]
  exact hahead j hj

theorem find?_eligible_none {queue : List Nat} (h : ∀ i ∈ queue, ¬offered s leg i) : queue.find? (s.eligible leg) = none :=
  List.find?_eq_none.mpr fun i hi => by
    rw [eligible_iff]
    exact h i hi

/-- R72, steps 1 and 3: the lowest element on the leg with a flag. -/
theorem firstElement_eq {test : Element → Bool} (hwf : s.elements.wf = true) {e : Nat} {x : Element} (hx : s.elements.get? e = some x)
    (hleg : x.leg = leg) (htest : test x = true)
    (hlow : ∀ e' y, e' < e → s.elements.get? e' = some y → y.leg = leg → test y = false) : s.firstElement leg test = some e := by
  have hfind := Table.find?_eq hwf (p := fun p => p.2.leg == leg && test p.2) hx (by simp [hleg, htest]) fun j y hj hy => by
    by_cases hyl : y.leg = leg
    · simp [hyl, hlow j y hj hy hyl]
    · simp [hyl]
  rw [State.firstElement, hfind]
  rfl

theorem firstElement_none {test : Element → Bool} (hwf : s.elements.wf = true)
    (hnone : ∀ e x, s.elements.get? e = some x → x.leg = leg → test x = false) : s.firstElement leg test = none := by
  rw [State.firstElement, Option.map_eq_none_iff, List.find?_eq_none]
  intro p hp
  have hget := (Table.get?_eq_some_iff hwf p.1 p.2).mpr hp
  by_cases hpl : p.2.leg = leg
  · simp [hpl, hnone p.1 p.2 hget hpl]
  · simp [hpl]

/-- R52, R76: a leg takes a tap. -/
theorem takeTap_eq (hl : s.legs[leg]? = some l) {i : Nat} {x : Tap} (hx : s.taps.get? i = some x) (q : QueueKind) : s.takeTap leg i q = { s with
    urgent := s.urgent.filter (· != i), bulk := s.bulk.filter (· != i)
    taps := s.taps.modify i fun t => { t with origin := some q, dirty := false }
    legs := s.legs.set leg (sent s l (.tap i 1 q (x.ports.map s.desired)) x.address 0x01#8 ((x.ports.map s.desired).flatMap settingBytes)) } := by
  unfold State.takeTap
  rw [hx]
  exact transmit_eq (s := (s.leaveQueues i).updTap i fun t => { t with origin := some q, dirty := false }) hl _ _ _ _

/-- R77: a leg takes a poll, and a ROUTINE one is due no more. -/
theorem takePoll_eq (hl : s.legs[leg]? = some l) {e : Nat} {x : Element} (hx : s.elements.get? e = some x) (priority : Bool) :
    s.takePoll leg e priority = { s with
      elements := if priority then s.elements else s.elements.modify e fun x => { x with pollDue := false }
      legs := s.legs.set leg (sent s l (.poll e priority false) x.address 0x02#8 []) } := by
  unfold State.takePoll
  rw [hx]
  cases priority with
  | true => exact transmit_eq hl _ _ _ _
  | false => exact transmit_eq (s := s.updElement e fun x => { x with pollDue := false }) hl _ _ _ _

/-- Settles O37. -/
theorem legTakesWorkInOrder : Obligations.LegTakesWorkInOrder := by
  intro s leg l hl hewf htwf
  refine ⟨fun h => ?_, fun hmode hidle hfault => ?_⟩
  · have hmay : s.mayTake l = false := by
      obtain h | h | h := h
      · simp [State.mayTake, h]
      · simp [State.mayTake, h]
      · simp [State.mayTake, Option.isNone_eq_false_iff.mpr h]
    simp only [exec, execLegTakesWork, hl, hmay, Bool.false_eq_true, if_false]
  · have htake : exec (.legTakesWork leg) s = .next (s.takeWork leg) := by
      simp [exec, execLegTakesWork, hl, State.mayTake, hmode, hidle, hfault]
    rw [htake]
    refine ⟨fun e x hx hxl hpriority hlow => ?_, fun hnopriority => ?_⟩
    · rw [State.takeWork, firstElement_eq hewf hx hxl hpriority hlow]
      dsimp only
      rw [takePoll_eq hl hx]
      rfl
    · rw [State.takeWork, firstElement_none hewf hnopriority]
      refine ⟨fun ahead behind i x hq hahead hi hx => ?_, fun hnourgent => ?_⟩
      · rw [find?_eligible hq hahead hi]
        dsimp only
        rw [takeTap_eq hl hx]
      · rw [find?_eligible_none hnourgent]
        refine ⟨fun e x hx hxl hdue hlow => ?_, fun hnodue => ?_⟩
        · rw [firstElement_eq hewf hx hxl hdue hlow]
          dsimp only
          rw [takePoll_eq hl hx]
          rfl
        · rw [firstElement_none hewf hnodue]
          refine ⟨fun ahead behind i x hq hahead hi hx => ?_, fun hnobulk => ?_⟩
          · rw [find?_eligible hq hahead hi]
            dsimp only
            rw [takeTap_eq hl hx]
          · rw [find?_eligible_none hnobulk]

/-! ## The bits on TX (R67) -/

theorem characterLevels_length (c : Byte) : (characterLevels c).length = 10 := by simp [characterLevels]

theorem flatMap_characterLevels_length (frame : List Byte) : (frame.flatMap characterLevels).length = 10 * frame.length := by
  induction frame with
  | nil => rfl
  | cons c frame ih =>
    rw [List.flatMap_cons, List.length_append, characterLevels_length, ih, List.length_cons]
    omega

theorem flatMap_characterLevels_getElem? {frame : List Byte} {k m : Nat} {c : Byte} (hc : frame[k]? = some c) (hm : m < 10) :
    (frame.flatMap characterLevels)[10 * k + m]? = (characterLevels c)[m]? := by
  induction frame generalizing k with
  | nil => simp at hc
  | cons d frame ih =>
    rw [List.flatMap_cons]
    cases k with
    | zero =>
      obtain rfl : d = c := by simpa using hc
      rw [List.getElem?_append_left (by rw [characterLevels_length]; omega), Nat.mul_zero, Nat.zero_add]
    | succ k =>
      rw [List.getElem?_append_right (by rw [characterLevels_length]; omega), characterLevels_length,
        (by omega : 10 * (k + 1) + m - 10 = 10 * k + m), ih (by simpa using hc)]

/-- R67: bit `m` of character `k`. -/
theorem tx_of_character (htx : l.txen = true) {k m : Nat} {c : Byte} (hc : l.frame[k]? = some c) (hm : m < 10) :
    l.tx (10 + 10 * k + m) = (characterLevels c).getD m mark := by
  rw [Leg.tx, if_pos htx, transmissionLevels, List.getD_eq_getElem?_getD, List.getElem?_append_right (by simp; omega), List.length_replicate,
    (by omega : 10 + 10 * k + m - 10 = 10 * k + m), flatMap_characterLevels_getElem? hc hm, List.getD_eq_getElem?_getD]

theorem tx_outside (htx : l.txen = true) {n : Nat} (hn : n < 10 ∨ 10 + 10 * l.frame.length ≤ n) : l.tx n = .high := by
  rw [Leg.tx, if_pos htx, transmissionLevels, List.getD_eq_getElem?_getD]
  obtain hn | hn := hn
  · rw [List.getElem?_append_left (by simpa using hn), List.getElem?_replicate_of_lt hn]
    rfl
  · rw [List.getElem?_eq_none (by rw [List.length_append, flatMap_characterLevels_length, List.length_replicate]; exact hn)]
    rfl

/-- R74: the start of a poll cycle. -/
theorem startCycle_eq (hl : s.legs[leg]? = some l) : s.startCycle leg = { s with
    elements := s.elements.mapAll fun _ x => if x.leg = leg ∧ x.state.polled then { x with pollDue := true } else x
    legs := s.legs.set leg { l with pollTimer := some (s.link.pollCycle * 1000) } } :=
  State.updLeg_of_leg (s := { s with elements := s.elements.mapAll fun _ x => if x.leg = leg ∧ x.state.polled then { x with pollDue := true } else x }) hl _

/-- Settles O38. -/
theorem framesEndAndCyclesStart : Obligations.FramesEndAndCyclesStart := by
  intro s leg l hl
  refine ⟨fun h => ?_, fun n hidle htx => ?_, fun n h => ?_, fun h n => ?_, fun htx => ⟨fun n hn => tx_outside htx hn, fun k c hc => ⟨?_, ?_, fun j hj => ?_⟩⟩,
    fun h => ?_, fun h => ?_⟩
  · simp only [exec, execFrameTransmitted, hl, h, if_true]
    rw [State.updLeg_of_leg hl]
  · simp only [exec, execFrameCutShort, hl, if_pos (And.intro hidle htx)]
    rw [State.updLeg_of_leg hl]
    rfl
  · have hnot : ¬(l.activity = .idle ∧ l.txen = true) := by
      rintro ⟨hidle, htx⟩
      obtain h | h := h
      · exact h hidle
      · simp [h] at htx
    simp only [exec, execFrameCutShort, hl, if_neg hnot]
  · simp [Leg.tx, h, mark]
  · exact tx_of_character htx hc (m := 0) (by omega)
  · exact (tx_of_character htx hc (m := 9) (by omega)).trans (by simp [characterLevels, mark, space])
  · rw [Nat.add_assoc, tx_of_character htx hc (by omega)]
    rw [characterLevels, List.append_assoc, List.getD_eq_getElem?_getD, List.getElem?_append_right (by simp), List.length_singleton,
      Nat.add_sub_cancel_left, List.getElem?_append_left (by simpa using hj), List.getElem?_map, List.getElem?_range hj]
    rfl
  · simp only [exec, execPollCycleExpiry, hl, if_neg h]
  · refine ⟨s.elements.mapAll fun _ x => if x.leg = leg ∧ x.state.polled then { x with pollDue := true } else x, ?_, fun e => ?_⟩
    · simp only [exec, execPollCycleExpiry, hl, if_pos h, startCycle_eq hl]
    · rw [Table.get?_mapAll]
      refine congrArg (Option.map · _) (funext fun x => if_congr (and_congr_right fun _ => ?_) rfl rfl)
      cases x.state <;> simp [ElementState.polled]

end Sys2Proof.Machine
end

section
/-! PROOFS. Reply frames (R69, R70, R181): the receiver on whole frames. -/

namespace Sys2Proof.Machine

variable {s t : State} {leg : Nat} {l : Leg}

/-! ## Whole frames (R69, R181) -/

section Frame

variable {address tag : Nat} {kind b0 b1 : Byte}

/-- R181: the two bytes of a frame check spell it. -/
theorem checkBytes_spell (reg : BitVec 16) : ∃ c1 c0 : Byte, w16 reg.toNat = [c1, c0] ∧ reg.toNat = c1.toNat * 256 + c0.toNat := by
  refine ⟨_, _, rfl, ?_⟩
  simp only [BitVec.toNat_ofNat]
  have := reg.isLt
  omega

/-- The ten characters of a reply. -/
theorem legFrame_eq (address tag : Nat) (kind b0 b1 : Byte) : ∃ a1 a0 g c1 c0 : Byte,
    legFrame address kind tag [b0, b1] = [syncChar, a1, a0, kind, g, 2#8, b0, b1, c1, c0] ∧
    (crc16 [a1, a0, kind, g, 2#8, b0, b1]).toNat = c1.toNat * 256 + c0.toNat ∧
    (address ≤ 65535 → a1.toNat * 256 + a0.toNat = address) ∧ (tag ≤ 255 → g.toNat = tag) := by
  obtain ⟨c1, c0, hbytes, hcheck⟩ :=
    checkBytes_spell (crc16 [BitVec.ofNat 8 (address / 256), BitVec.ofNat 8 address, kind, BitVec.ofNat 8 tag, 2#8, b0, b1])
  refine ⟨BitVec.ofNat 8 (address / 256), BitVec.ofNat 8 address, BitVec.ofNat 8 tag, c1, c0, ?_, hcheck, fun h => ?_, fun h => ?_⟩
  · exact congrArg ([syncChar, BitVec.ofNat 8 (address / 256), BitVec.ofNat 8 address, kind, BitVec.ofNat 8 tag, 2#8, b0, b1] ++ ·) hbytes
  · simp only [BitVec.toNat_ofNat]
    omega
  · simp only [BitVec.toNat_ofNat]
    omega

/-- R69: a reply of either kind is incomplete before its last character. -/
theorem assembled_take (hk : kind = 0x01#8 ∨ kind = 0x02#8) {n : Nat} (hn : n < 10) :
    assembled ((legFrame address kind tag [b0, b1]).take n) = .incomplete := by
  obtain ⟨a1, a0, g, c1, c0, heq, -⟩ := legFrame_eq address tag kind b0 b1
  have hkind : ¬(kind ≠ tapSetKind ∧ kind ≠ pollKind) := by
    rintro ⟨h1, h2⟩
    exact hk.elim h1 h2
  rw [heq]
  interval_cases n <;> simp [assembled, assemble, hkind]

theorem assembled_legFrame (hk : kind = 0x01#8 ∨ kind = 0x02#8) (ha : address ≤ 65535) (ht : tag ≤ 255) :
    assembled (legFrame address kind tag [b0, b1]) = .passed address kind tag b0 b1 := by
  obtain ⟨a1, a0, g, c1, c0, heq, hcrc, haddress, htag⟩ := legFrame_eq address tag kind b0 b1
  have hkind : ¬(kind ≠ tapSetKind ∧ kind ≠ pollKind) := by
    rintro ⟨h1, h2⟩
    exact hk.elim h1 h2
  rw [heq]
  simp [assembled, assemble, hkind, hcrc, haddress ha, htag ht]

/-- R69, R70: a reply that comes whole to an AWAITING leg is judged. -/
theorem receive_legFrame {w : Transaction} (h : s.legs[leg]? = some l) (ha : l.activity = .awaiting) (ht : l.tryTimer ≠ 0)
    (hw : l.txn = some w) (hrx : l.rx = []) (hk : kind = 0x01#8 ∨ kind = 0x02#8) (haddress : address ≤ 65535) (htag : tag ≤ 255) :
    exec (.replyFrameReceived leg (legFrame address kind tag [b0, b1])) s =
      .next (s.judge leg l.tag w (.passed address kind tag b0 b1)) := by
  have hassembled := assembled_legFrame (b0 := b0) (b1 := b1) hk haddress htag
  have htake (n : Nat) (hn : n < 10) := assembled_take (address := address) (tag := tag) (b0 := b0) (b1 := b1) hk hn
  obtain ⟨a1, a0, g, c1, c0, heq, -⟩ := legFrame_eq address tag kind b0 b1
  rw [heq] at hassembled ⊢
  rw [heq] at htake
  have hframe := State.receive_frame h ha ht hw hrx (cs := [syncChar, a1, a0, kind, g, 2#8, b0, b1, c1]) (c := c0) rfl
    (fun n _ hn => (congrArg assembled (List.take_append_of_le_length hn)).symm.trans (htake n (Nat.lt_succ_of_le hn)))
    (by simp [hassembled])
  rw [← hassembled]
  exact congrArg _ hframe

end Frame

end Sys2Proof.Machine
end

section
/-! PROOFS. A tap's reply and its tries (O40, O41), and return faults (O42). -/

namespace Sys2Proof.Machine

variable {s t : State} {leg i : Nat} {l : Leg}

/-! ## The leg at the end of a transaction, and its counters -/

theorem endTransaction_eq (hl : s.legs[leg]? = some l) : s.endTransaction leg = { s with legs := s.legs.set leg (freed s l) } :=
  State.updLeg_of_leg hl _

theorem countLeg_eq (hl : s.legs[leg]? = some l) (f : LegCounters → LegCounters) :
    s.countLeg leg f = { s with legs := s.legs.set leg { l with counters := f l.counters } } :=
  State.updLeg_of_leg hl _

theorem getElem?_set_of_leg (hl : s.legs[leg]? = some l) (l' : Leg) : (s.legs.set leg l')[leg]? = some l' := by
  simp [(List.getElem?_eq_some_iff.mp hl).1]

/-- A transaction that ends after a count on its leg. -/
theorem endTransaction_countLeg (hl : s.legs[leg]? = some l) (f : LegCounters → LegCounters) :
    (s.countLeg leg f).endTransaction leg = { s with legs := s.legs.set leg (freed s { l with counters := f l.counters }) } := by
  rw [countLeg_eq hl, endTransaction_eq (getElem?_set_of_leg hl _), List.set_set]
  rfl

theorem up16_eq (n : Nat) : up16 n = if n < 65535 then n + 1 else 65535 := by
  unfold up16
  split <;> omega

/-! ## A tap's valid reply (R53, R54) -/

theorem lidOf_eq (b : Byte) : lidOf b = if b = 0#8 then .closed else .opened := by
  unfold lidOf
  split <;> simp_all

theorem replyAlarms_eq (s : State) (tap : Nat) (x : Tap) (lid : Byte) :
    s.replyAlarms tap x lid = { s with alarms := (s.replyAlarms tap x lid).alarms } := by
  unfold State.replyAlarms
  dsimp only
  split_ifs <;> rfl

/-- R53: the alarms that a valid reply ends and raises. -/
theorem replyAlarms_alarms (s u : State) (ha : u.alarms = s.alarms) (hc : u.clock = s.clock) (tap : Nat) (x : Tap) (lid : Byte) :
    (u.replyAlarms tap x lid).alarms = (let ended := if x.state = .silent then s.endAlarm .tapSilent tap else s
      if x.lid = .closed ∧ lid ≠ 0#8 then ended.raiseOccurrence .tapTamper tap else ended).alarms := by
  have hlid : lidOf lid = .opened ↔ lid ≠ 0#8 := by
    rw [lidOf_eq]
    split <;> simp_all
  unfold State.replyAlarms
  simp only [hlid]
  split_ifs <;> simp only [State.raiseOccurrence, State.endAlarm, State.now, ha, hc]

/-- R54: the queues after a valid reply. -/
theorem replyJoins_eq (s : State) (tap : Nat) (x : Tap) (q : QueueKind) (applied : Byte) : s.replyJoins tap x q applied = { s with
    urgent := if x.dirty = true ∧ q = .urgent then s.urgent ++ [tap] else s.urgent
    bulk := if (x.dirty = true ∧ q = .bulk) ∨ (x.dirty = false ∧ ∃ n, n < 4 ∧ applied.getLsbD n = false) then s.bulk ++ [tap] else s.bulk } := by
  have hall : allApplied applied = false ↔ ∃ n, n < 4 ∧ applied.getLsbD n = false := by
    simp [allApplied, appliedBit, ← Bool.not_eq_true]
  unfold State.replyJoins
  simp only [← hall]
  cases x.dirty <;> cases q <;> cases allApplied applied <;> rfl

/-- Settles O40. -/
theorem tapReplyConfirmsTheBuiltSettings : Obligations.TapReplyConfirmsTheBuiltSettings := by
  rintro s leg i tries address l q built t _ _ a b hl hawaiting htimer htxn hrx haddress htag rfl hwf ht - - rfl
  have hreceived := receive_legFrame hl hawaiting htimer htxn hrx (b0 := a) (b1 := b) (.inl rfl) haddress htag
  have hjudged : s.judge leg l.tag ⟨.tap i tries q built, address⟩ (.passed address 0x01#8 l.tag a b) =
      (s.countLeg leg fun c => { c with valid := up16 c.valid }).tapReply leg i q built a b := by
    simp [State.judge, Work.kind, State.tryAnswered, tapSetKind]
  rw [hreceived, hjudged, tapReply_eq (by simpa using ht), endTransaction_countLeg hl, replyJoins_eq, replyAlarms_eq]
  refine ⟨_, rfl, ?_, ?_, rfl, rfl, ?_, rfl⟩
  · exact (Table.modify_eq_const hwf ht fun x => x.replied built a b).trans (by rw [Tap.replied, lidOf_eq]; rfl)
  · simp only [up16_eq]
    rfl
  · exact replyAlarms_alarms s _ (by rfl) (by rfl) i t b

/-! ## A tap's try that times out (R55 to R57) -/

theorem exec_tryTimerExpiry {w : Transaction} (hl : s.legs[leg]? = some l) (hw : l.txn = some w) :
    exec (.tryTimerExpiry leg) s =
      if l.tryTimer = 0 then .next ((s.countLeg leg fun c => { c with expired := up16 c.expired }).tryFailed leg w) else .next s := by
  simp only [exec, execTryTimerExpiry, hl, hw]

theorem tryFailed_tap (s : State) (leg i tries address : Nat) (q : QueueKind) (built : List Setting) :
    s.tryFailed leg ⟨.tap i tries q built, address⟩ = s.tapTryFailed leg i tries q address := rfl

theorem feedReachable_eq {x : Tap} {e : Element} (he : s.elements.get? x.feeding = some e) : s.feedReachable x = e.state.reachable := by
  simp only [State.feedReachable, he]

/-- R55: a try of a tap that is held: the tap goes back to the head of its queue, whatever was counted on its leg. -/
theorem tapTryFailed_held (hl : s.legs[leg]? = some l) {x : Tap} {tries address : Nat} {q : QueueKind} (hwf : s.taps.wf = true)
    (hx : s.taps.get? i = some x) (hheld : s.feedReachable x = false) : s.tapTryFailed leg i tries q address = { s with
      taps := s.taps.modify i fun _ => { x with origin := none, dirty := false }
      urgent := if q = .urgent then i :: s.urgent else s.urgent
      bulk := if q = .bulk then i :: s.bulk else s.bulk
      legs := s.legs.set leg (freed s l) } := by
  simp only [State.tapTryFailed, hx, hheld, Bool.not_false, if_true]
  rw [State.returnHeld, endTransaction_joinHead, endTransaction_updTap, endTransaction_eq hl, State.updTap,
    Table.modify_eq_const hwf (t := s.taps) hx]
  cases q <;> rfl

/-- R56: a try of a tap that is sent again. -/
theorem tapTryFailed_again (hl : s.legs[leg]? = some l) {x : Tap} {tries address : Nat} {q : QueueKind} (hwf : s.taps.wf = true)
    (hx : s.taps.get? i = some x) (hreach : s.feedReachable x = true) (htries : tries ≤ s.link.retryLimit) :
    s.tapTryFailed leg i tries q address = { s with
      taps := s.taps.modify i fun _ => { x with dirty := false }
      legs := s.legs.set leg (sent s l (.tap i (tries + 1) q (x.ports.map s.desired)) address 0x01#8
        ((x.ports.map s.desired).flatMap settingBytes)) } := by
  simp only [State.tapTryFailed, hx, hreach, Bool.not_true, Bool.false_eq_true, if_false, if_pos (Nat.lt_succ_of_le htries)]
  rw [transmit_eq (s := s.updTap i _) hl, State.updTap, Table.modify_eq_const hwf hx]
  rfl

/-- R57: a tap whose tries are spent goes SILENT. -/
theorem tapTryFailed_silent (hl : s.legs[leg]? = some l) {x : Tap} {tries address : Nat} {q : QueueKind} (hwf : s.taps.wf = true)
    (hx : s.taps.get? i = some x) (hreach : s.feedReachable x = true) (htries : s.link.retryLimit < tries) :
    s.tapTryFailed leg i tries q address = { s with
      taps := s.taps.modify i fun _ => { x with
        ports := x.ports.map fun p => { p with confirmed := none }
        state := .silent, countdown := some s.link.silentInterval, origin := none, dirty := false }
      legs := s.legs.set leg (freed s l)
      alarms := s.alarms.raise .tapSilent i .condition ⟨s.clock.minute, s.clock.second⟩ } := by
  simp only [State.tapTryFailed, hx, hreach, Bool.not_true, Bool.false_eq_true, if_false, if_neg (Nat.not_lt.mpr (Nat.succ_le_of_lt htries))]
  rw [State.goSilent, endTransaction_raiseCondition, endTransaction_updTap, endTransaction_eq hl, State.updTap,
    Table.modify_eq_const hwf (t := s.taps) hx]
  rfl

theorem ElementState.reachable_eq_false {x : ElementState} (h : x = .down ∨ x = .shadowed ∨ x = .verify) : x.reachable = false := by
  rcases h with rfl | rfl | rfl <;> rfl

/-- Settles O41. -/
theorem tapTryTimesOut : Obligations.TapTryTimesOut := by
  intro s leg i tries address l q built x e hl hw hwf hx he
  refine ⟨fun htimer => by rw [exec_tryTimerExpiry hl hw, if_neg htimer], fun htimer => ⟨_, rfl, fun hstate => ?_, fun hstate htries => ?_, fun hstate htries => ?_⟩⟩
  all_goals
    rw [exec_tryTimerExpiry hl hw, if_pos htimer, countLeg_eq hl, tryFailed_tap, up16_eq]
    refine congrArg _ ?_
  · rw [tapTryFailed_held (getElem?_set_of_leg hl _) (by exact hwf) (by exact hx)
      (by exact (feedReachable_eq he).trans (ElementState.reachable_eq_false hstate))]
    simp only [List.set_set]
    rfl
  · rw [tapTryFailed_again (getElem?_set_of_leg hl _) (by exact hwf) (by exact hx)
      (by exact (feedReachable_eq he).trans ((ElementState.reachable_iff _).mpr hstate)) (by exact htries)]
    simp only [List.set_set]
    rfl
  · rw [tapTryFailed_silent (getElem?_set_of_leg hl _) (by exact hwf) (by exact hx)
      (by exact (feedReachable_eq he).trans ((ElementState.reachable_iff _).mpr hstate)) (by exact htries)]
    simp only [List.set_set]
    rfl

/-! ## Return faults (R58, R79, R80) -/

theorem measuring_eq (l : Leg) (micros : Nat) (unbroken : Bool) :
    l.measuring ⟨micros, unbroken⟩ = if unbroken then l.measured + micros else micros := by
  cases unbroken <;> simp [Leg.measuring]

/-- R79: a leg when a return fault begins. -/
def faulted (s : State) (l : Leg) : Leg :=
  { l with
    fault := some ⟨s.clock.minute, s.clock.second⟩, measured := 0
    counters := { l.counters with faults := if l.counters.faults < 65535 then l.counters.faults + 1 else 65535 } }

/-- R79: the state when a return fault begins, before a transaction is abandoned. -/
def State.inFault (s : State) (leg : Nat) (l : Leg) : State :=
  { s with
    alarms := s.alarms.raise .legReturnFault leg .condition ⟨s.clock.minute, s.clock.second⟩
    legs := s.legs.set leg (faulted s l) }

theorem beginFault_eq (hl : s.legs[leg]? = some l) (activity : Activity) (txn : Option Transaction) :
    s.beginFault leg activity txn = match activity, txn with
      | .awaiting, some t => (s.inFault leg l).abandon leg t
      | _, _ => s.inFault leg l := by
  unfold State.beginFault
  rw [State.updLeg_of_leg hl, up16_eq]
  cases activity <;> cases txn <;> rfl

/-- R80: the leg of an abandoned transaction. -/
def abandoned (s : State) (l : Leg) : Leg :=
  freed s { faulted s l with counters := { (faulted s l).counters with
    abandoned := if l.counters.abandoned < 65535 then l.counters.abandoned + 1 else 65535 } }

theorem inFault_abandon (hl : s.legs[leg]? = some l) :
    ((s.inFault leg l).countLeg leg fun c => { c with abandoned := up16 c.abandoned }).endTransaction leg =
      { s.inFault leg l with legs := s.legs.set leg (abandoned s l) } := by
  rw [endTransaction_countLeg (s := s.inFault leg l) (getElem?_set_of_leg hl _), up16_eq, State.inFault, List.set_set]
  rfl

/-- R58: an abandoned tap goes back to the head of its origin queue. -/
theorem inFault_abandon_tap (hl : s.legs[leg]? = some l) {tries address : Nat} {q : QueueKind} {built : List Setting} {x : Tap}
    (hwf : s.taps.wf = true) (hx : s.taps.get? i = some x) :
    (s.inFault leg l).abandon leg ⟨.tap i tries q built, address⟩ = { s.inFault leg l with
      taps := s.taps.modify i fun _ => { x with origin := none, dirty := false }
      urgent := if q = .urgent then i :: s.urgent else s.urgent
      bulk := if q = .bulk then i :: s.bulk else s.bulk
      legs := s.legs.set leg (abandoned s l) } := by
  have hcount (f : LegCounters → LegCounters) : (((s.inFault leg l).returnHeld i q).countLeg leg f).endTransaction leg =
      (((s.inFault leg l).countLeg leg f).endTransaction leg).returnHeld i q := by cases q <;> rfl
  have habandon : (s.inFault leg l).abandon leg ⟨.tap i tries q built, address⟩ =
      (((s.inFault leg l).returnHeld i q).countLeg leg fun c => { c with abandoned := up16 c.abandoned }).endTransaction leg := rfl
  rw [habandon, hcount, inFault_abandon hl, State.returnHeld, State.updTap]
  rw [← Table.modify_eq_const hwf hx fun t => { t with origin := none, dirty := false }]
  cases q <;> rfl

/-- R80: the ROUTINE poll of an element still UP, SUSPECT or DOWN is due again. -/
theorem inFault_abandon_poll (hl : s.legs[leg]? = some l) {e address : Nat} {x : Element} (hwf : s.elements.wf = true)
    (hx : s.elements.get? e = some x) : (s.inFault leg l).abandon leg ⟨.poll e false false, address⟩ = { s.inFault leg l with
      elements := s.elements.modify e fun _ => { x with
        pollDue := if x.state = .up ∨ x.state = .suspect ∨ x.state = .down then true else x.pollDue }
      legs := s.legs.set leg (abandoned s l) } := by
  have hdue : (x.pollDue || x.state.polled) = if x.state = .up ∨ x.state = .suspect ∨ x.state = .down then true else x.pollDue := by
    cases x.state <;> simp [ElementState.polled]
  have habandon : (s.inFault leg l).abandon leg ⟨.poll e false false, address⟩ =
      (((s.inFault leg l).countLeg leg fun c => { c with abandoned := up16 c.abandoned }).endTransaction leg).updElement e
        fun x => { x with pollDue := x.pollDue || x.state.polled } := rfl
  rw [habandon, inFault_abandon hl, State.updElement, ← hdue]
  rw [← Table.modify_eq_const hwf hx fun x => { x with pollDue := x.pollDue || x.state.polled }]
  rfl

theorem inFault_abandon_other (hl : s.legs[leg]? = some l) {e address : Nat} {priority retired : Bool} (h : priority = true ∨ retired = true) :
    (s.inFault leg l).abandon leg ⟨.poll e priority retired, address⟩ = { s.inFault leg l with legs := s.legs.set leg (abandoned s l) } := by
  rw [← inFault_abandon hl]
  simp [State.abandon, h]

/-- Settles O42. -/
theorem returnFaultsBeginAndEnd : Obligations.ReturnFaultsBeginAndEnd := by
  intro s leg micros total unbroken l hl htaps helements htotal
  rw [← measuring_eq] at htotal
  subst htotal
  refine ⟨fun htransmitting => ?_, fun hactivity at_ hfault => ⟨?_, fun hshort => ?_, fun hlong => ?_⟩, fun hactivity hfault => ⟨?_, fun hshort => ?_, fun hlong => ?_⟩⟩
  · simp [exec, execReturnFaultBegins, execReturnFaultEnds, hl, htransmitting]
  · simp [exec, execReturnFaultBegins, hl, hfault]
  · simp [exec, execReturnFaultEnds, hl, hactivity, hfault, atLeastCharacter, Nat.not_le.mpr hshort, State.measure, State.updLeg_of_leg hl]
  · simp [exec, execReturnFaultEnds, hl, hactivity, hfault, atLeastCharacter, hlong, State.updLeg_of_leg hl]
    rfl
  · simp [exec, execReturnFaultEnds, hl, hfault]
  · simp [exec, execReturnFaultBegins, hl, hactivity, hfault, longerThanCharacter, Nat.not_lt.mpr hshort, State.measure, State.updLeg_of_leg hl]
  · have hbegins : exec (.returnFaultBegins leg ⟨micros, unbroken⟩) s = .next (s.beginFault leg l.activity l.txn) := by
      simp [exec, execReturnFaultBegins, hl, hactivity, hfault, longerThanCharacter, hlong]
    rw [hbegins, beginFault_eq hl]
    refine ⟨faulted s l, _, rfl, rfl, fun hidle => ?_, ?_⟩
    · rw [hidle]
      rfl
    · rintro hawaiting _ rfl
      rw [hawaiting]
      refine ⟨fun i tries q built address x hw hx => ?_, fun e address x hw hx => ?_, fun e address priority retired hw hother => ?_⟩ <;> rw [hw]
      · exact congrArg _ (inFault_abandon_tap hl htaps hx)
      · exact congrArg _ (inFault_abandon_poll hl helements hx)
      · exact congrArg _ (inFault_abandon_other hl hother)

end Sys2Proof.Machine
end

section
/-! PROOFS. What the Plant Topology Table does with a miss and with a reply (O43, O44). -/

namespace Sys2Proof.Machine

variable {s t : State} {e leg : Nat} {x : Element} {l : Leg}

/-! ## The tree -/

theorem underFrom_congr {old new : Table Element} (h : ∀ j, (new.get? j).map Element.parent = (old.get? j).map Element.parent) (e : Nat) :
    ∀ fuel j, underFrom new e fuel j = underFrom old e fuel j := by
  intro fuel
  induction fuel with
  | zero => exact fun _ => rfl
  | succ fuel ih =>
    intro j
    have hj := h j
    unfold underFrom
    cases hnew : new.get? j <;> cases hold : old.get? j <;> simp_all

/-- R88: what lies under an element depends on the parents alone. -/
theorem State.under_congr (h : ∀ j, (t.elements.get? j).map Element.parent = (s.elements.get? j).map Element.parent) (e j : Nat) :
    t.under e j = s.under e j := underFrom_congr h e 16 j

theorem State.under_updElement {f : Element → Element} (hf : ∀ x, (f x).parent = x.parent) (e j k : Nat) :
    (s.updElement k f).under e j = s.under e j := by
  refine State.under_congr (fun i => ?_) e j
  rw [State.updElement, Table.get?_modify]
  split
  · cases s.elements.get? i <;> simp [hf]
  · rfl

/-! ## An element that goes DOWN (R95) -/

theorem State.endDowns_eq (s : State) (elements : List Nat) :
    s.endDowns elements = { s with alarms := elements.foldl (fun a j => a.endCondition .elementDown j) s.alarms } := by
  induction elements generalizing s with
  | nil => rfl
  | cons j elements ih => exact ih (s.endAlarm .elementDown j)

/-- R95: the DOWN elements below an element, whose ELEMENT_DOWN ends when it goes DOWN. -/
def State.fallenBelow (s : State) (e : Nat) : List Nat :=
  (s.elements.filter fun (p : Nat × Element) => decide (p.1 ≠ e ∧ s.under e p.1 = true ∧ p.2.state = .down)).map Prod.fst

theorem filter_modify_keys {α : Type} (t : Table α) (k : Nat) (f : α → α) {p q : Nat × α → Bool} (hk : ∀ y, p (k, y) = false)
    (hk' : ∀ y, q (k, y) = false) (h : ∀ j y, j ≠ k → p (j, y) = q (j, y)) :
    ((Table.modify k f t).filter p).map Prod.fst = (t.filter q).map Prod.fst := by
  induction t with
  | nil => rfl
  | cons a t ih =>
    obtain ⟨j, y⟩ := a
    have hstep : Table.modify k f ((j, y) :: t) = (if j = k then (j, f y) else (j, y)) :: Table.modify k f t := rfl
    rw [hstep]
    by_cases hj : j = k
    · subst hj
      simp [hk, hk', ih]
    · by_cases hq : q (j, y) = true <;> simp [hj, h j y hj, hq, ih]

theorem State.fallenBelow_updElement {f : Element → Element} (hf : ∀ x, (f x).parent = x.parent) :
    (s.updElement e f).fallenBelow e = s.fallenBelow e :=
  filter_modify_keys _ _ _ (by simp) (by simp) fun j y _ => by simp only [State.under_updElement hf]

/-- R95: an element becomes DOWN, its unreachable-since kept. -/
def Element.lowered (x : Element) : Element := { x with state := .down, priority := false }

/-- R95: the state when an element is DOWN, before those below it are shadowed. -/
def State.lower (s : State) (e : Nat) : State := (s.updElement e Element.lowered).raiseCondition .elementDown e

theorem State.under_lower (e j : Nat) : (s.lower e).under e j = s.under e j := State.under_updElement (f := Element.lowered) (fun _ => rfl) e j e

theorem State.descendants_lower : (s.lower e).descendants e (fun y => y.state = .down) = s.fallenBelow e := by
  refine Eq.trans ?_ (State.fallenBelow_updElement (e := e) (f := Element.lowered) fun _ => rfl)
  unfold State.descendants State.fallenBelow
  refine congrArg (List.map Prod.fst) (List.filter_congr fun p _ => ?_)
  rw [State.under_updElement (f := Element.lowered) fun _ => rfl, State.under_lower]
  by_cases hp : p.1 = e
  · simp [hp]
  · simp [hp, bne_iff_ne.mpr hp]

/-- R95: what the tables hold when an element has gone DOWN. -/
theorem State.goDown_eq (hx : s.elements.get? e = some x) : s.goDown e = { s with
    elements := s.elements.mapAll fun j y =>
      if j = e then y.lowered else if s.under e j = true ∧ y.state ≠ .shadowed then y.shadow x.since else y
    alarms := (s.fallenBelow e).foldl (fun a j => a.endCondition .elementDown j) (s.alarms.raise .elementDown e .condition s.now) } := by
  have hgo : s.goDown e = { s.lower e with
      elements := (s.lower e).elements.mapAll fun i y =>
        if i ≠ e ∧ (s.lower e).under e i ∧ y.state ≠ ElementState.shadowed then y.shadow x.since else y
      alarms := ((s.lower e).descendants e fun y => y.state = .down).foldl (fun a j => a.endCondition .elementDown j) (s.lower e).alarms } := by
    unfold State.goDown
    rw [hx]
    exact State.endDowns_eq _ _
  have helements : (s.lower e).elements.mapAll (fun i y =>
        if i ≠ e ∧ s.under e i ∧ y.state ≠ ElementState.shadowed then y.shadow x.since else y) =
      s.elements.mapAll fun j y =>
        if j = e then y.lowered else if s.under e j = true ∧ y.state ≠ .shadowed then y.shadow x.since else y := by
    simp only [State.lower, State.raiseCondition, State.updElement, Table.mapAll, Table.modify, List.map_map]
    refine List.map_congr_left fun p _ => ?_
    by_cases hp : p.1 = e <;> simp [hp]
  rw [hgo, State.descendants_lower]
  simp only [State.under_lower, helements]
  rfl

theorem State.goDown_updElement {f : Element → Element} (hx : s.elements.get? e = some x) (hf : ∀ x, (f x).parent = x.parent) :
    (s.updElement e f).goDown e = { s with
      elements := (s.elements.modify e f).mapAll fun j y =>
        if j = e then y.lowered else if s.under e j = true ∧ y.state ≠ .shadowed then y.shadow (f x).since else y
      alarms := (s.fallenBelow e).foldl (fun a j => a.endCondition .elementDown j) (s.alarms.raise .elementDown e .condition s.now) } := by
  rw [State.goDown_eq (s := s.updElement e f) (x := f x) (by simp [State.updElement, hx]), State.fallenBelow_updElement hf]
  simp only [State.under_updElement hf]
  rfl

/-! ## A miss (R93, R94, R96) -/

/-- R94, R96: an element that has counted a miss. -/
def Element.missed (x : Element) (minute : Nat) : Element :=
  if x.state = .up ∨ x.state = .suspect then { x with state := .suspect, miss := missUp x.miss, since := some (x.since.getD minute) }
  else { x with miss := missUp x.miss }

theorem sinceAt_eq (minute : Nat) (since : Option Nat) : sinceAt minute since = some (since.getD minute) := by cases since <;> rfl

theorem applyMiss_shadowed (hx : s.elements.get? e = some x) (h : x.state = .shadowed) : s.applyMiss e = s := by
  simp [State.applyMiss, hx, h]

/-- R94, R96: a miss that is counted and moves no element DOWN. -/
theorem applyMiss_counted (hx : s.elements.get? e = some x) (h : x.state = .down ∨ x.state ≠ .shadowed ∧ missUp x.miss < s.topo.missThreshold) :
    s.applyMiss e = s.updElement e fun y => { y with
      state := if x.state = .up ∨ x.state = .suspect then .suspect else y.state
      miss := missUp y.miss
      since := if x.state = .up ∨ x.state = .suspect then some (y.since.getD s.clock.minute) else y.since } := by
  have hbelow (hs : x.state ≠ .down) : ¬s.topo.missThreshold ≤ missUp x.miss := by
    rcases h with h | ⟨-, h⟩
    · exact absurd h hs
    · omega
  cases hstate : x.state <;> simp_all [State.applyMiss, sinceAt_eq]

/-- R95: a miss at the threshold. -/
theorem applyMiss_down (hx : s.elements.get? e = some x) (h : x.state = .up ∨ x.state = .suspect ∨ x.state = .verify)
    (hmiss : s.topo.missThreshold ≤ missUp x.miss) :
    s.applyMiss e = (s.updElement e fun y => { y with
      state := if x.state = .verify then y.state else .suspect
      miss := missUp y.miss
      since := if x.state = .verify then y.since else some (y.since.getD s.clock.minute) }).goDown e := by
  rcases h with h | h | h <;> simp [State.applyMiss, hx, h, hmiss, sinceAt_eq]

theorem missUp_eq (n : Nat) : missUp n = if n < 15 then n + 1 else 15 := by
  unfold missUp
  split <;> omega

/-- R77: a poll whose timer runs out is handed to its element. -/
theorem exec_pollExpiry {address : Nat} {priority retired : Bool} (hl : s.legs[leg]? = some l)
    (hw : l.txn = some ⟨.poll e priority retired, address⟩) (htimer : l.tryTimer = 0) :
    exec (.tryTimerExpiry leg) s = .next
      (if retired then { s with legs := s.legs.set leg (afterExpiry s l) } else ({ s with legs := s.legs.set leg (afterExpiry s l) } : State).applyMiss e) := by
  rw [exec_tryTimerExpiry hl hw, if_pos htimer, State.tryFailed]
  dsimp only
  rw [endTransaction_countLeg hl, up16_eq]
  rfl

theorem missCases (x : Element) (threshold : Nat) : x.state = .shadowed ∨ (x.state = .down ∨ x.state ≠ .shadowed ∧ missUp x.miss < threshold) ∨
    ((x.state = .up ∨ x.state = .suspect ∨ x.state = .verify) ∧ threshold ≤ missUp x.miss) := by
  rcases Nat.lt_or_ge (missUp x.miss) threshold with h | h <;> cases x.state <;> simp [h]

/-- Settles O43. -/
theorem missesMoveElements : Obligations.MissesMoveElements := by
  intro s leg e address l priority retired hl hw
  refine ⟨fun htimer => by rw [exec_tryTimerExpiry hl hw, if_neg htimer], fun htimer hretired => ?_, ?_⟩
  · rw [exec_pollExpiry hl hw htimer, if_pos hretired]
  · rintro htimer rfl x _ hx rfl
    rw [exec_pollExpiry hl hw htimer, ← missUp_eq, if_neg Bool.false_ne_true]
    have hx' : ({ s with legs := s.legs.set leg (afterExpiry s l) } : State).elements.get? e = some x := hx
    obtain hstate | hcounted | ⟨hstate, hmiss⟩ := missCases x s.topo.missThreshold
    · rw [applyMiss_shadowed hx' hstate]
      refine ⟨_, rfl, rfl, rfl, fun _ => ⟨rfl, rfl⟩, ?_, ?_, ?_⟩ <;> simp [hstate]
    · rw [applyMiss_counted hx' hcounted]
      refine ⟨_, rfl, rfl, rfl, fun h => ?_, fun h => ⟨?_, rfl⟩, fun h hlow => ⟨?_, fun j hj => ?_, rfl⟩, fun h hhigh => ?_⟩
      · simp [h] at hcounted
      · have hno : ¬(x.state = .up ∨ x.state = .suspect) := by rcases h with h | ⟨h, -⟩ <;> simp [h]
        simp only [hno, if_false]
        rfl
      · simp [State.updElement, hx, h]
      · simp [State.updElement, Table.get?_modify, hj.symm]
      · rcases hcounted with h' | ⟨-, h'⟩
        · simp [h'] at h
        · omega
    · rw [applyMiss_down hx' hstate hmiss, State.goDown_updElement hx' (by exact fun _ => rfl)]
      refine ⟨_, rfl, rfl, rfl, fun h => ?_, fun h => ?_, fun _ hlow => absurd hlow (by omega), fun _ _ => ⟨_, rfl, ?_, fun j hj => ?_, ?_⟩⟩
      · simp [h] at hstate
      · rcases h with h | ⟨-, hlow⟩
        · simp [h] at hstate
        · omega
      · simp [hx, Element.lowered]
      · simp [Table.get?_modify, hj, hj.symm, Element.shadow] <;> rfl
      · rfl

end Sys2Proof.Machine
end

section
/-! PROOFS. What the Plant Topology Table does with a reply (O44). -/

namespace Sys2Proof.Machine

variable {s t : State} {e leg : Nat} {x : Element} {l : Leg}

/-! ## Conditions that follow a reply (R102, R103) -/

theorem State.followCondition_eq (s : State) (k : AlarmKind) (subject : Nat) (before after : Bool) :
    s.followCondition k subject before after = { s with alarms := followed s.alarms k subject s.now before after } := by
  cases before <;> cases after <;> rfl

theorem updateConditions_eq (hx : s.elements.get? e = some x) (supply : Option Supply) (level : Int) :
    s.updateConditions e supply level = { s with
      elements := s.elements.modify e fun y => { y with supply := supply.getD x.supply, level := some level }
      alarms := followed (followed (followed s.alarms .elementOnBattery e s.now x.supply.onBattery (supply.getD x.supply).onBattery)
        .elementBatteryLow e s.now x.supply.isLow (supply.getD x.supply).isLow)
        .elementLevel e s.now (levelStands s.topo.levelLimit x.level) (levelStands s.topo.levelLimit (some level)) } := by
  unfold State.updateConditions
  simp only [hx, State.followCondition_eq]
  rfl

/-- R62: a sweep request reads the taps, the sweep, the scopes and the tree. -/
theorem State.requestSweep_congr (htaps : t.taps = s.taps) (hsweep : t.sweep = s.sweep) (hscopes : t.scopes = s.scopes)
    (hunder : ∀ a b, t.under a b = s.under a b) (r : SweepRequest) : (t.requestSweep r).taps = (s.requestSweep r).taps ∧
      (t.requestSweep r).sweep = (s.requestSweep r).sweep ∧ (t.requestSweep r).scopes = (s.requestSweep r).scopes := by
  have hclear (es : List Nat) : (t.clearUnder es).taps = (s.clearUnder es).taps := by simp only [State.clearUnder, htaps, hunder]
  unfold State.requestSweep State.mergeScope
  rw [hsweep, hscopes]
  cases hw : s.sweep with
  | none => simp [htaps]
  | some w =>
    rcases hp : s.scopes with _ | _ | es <;> cases r <;> dsimp only <;> (repeat' split) <;>
      simp [htaps, hsweep, hw, hscopes, hp, hclear]

/-! ## A reply (R93, R97 to R99) -/

theorem applyReply_shadowed (hx : s.elements.get? e = some x) (h : x.state = .shadowed) (supply : Option Supply) (level : Int) :
    s.applyReply e supply level = s := by
  simp [State.applyReply, hx, h]

theorem applyReply_reachable (hx : s.elements.get? e = some x) (h : x.state = .up ∨ x.state = .suspect) (supply : Option Supply) (level : Int) :
    s.applyReply e supply level = (s.updElement e Element.answered).updateConditions e supply level := by
  rcases h with h | h <;> simp [State.applyReply, hx, h]

/-- R97 to R99: the tables when an element is restored, before its sweep is requested. -/
def State.restored (s : State) (e : Nat) (x : Element) : State :=
  { s with
    elements := (s.elements.modify e fun y => { y.answered with priority := if x.state = .verify then false else y.priority }).mapAll fun _ y =>
      if y.parent = some e then { y with state := .verify, miss := 0, priority := true } else y
    alarms := if x.state = .down then s.alarms.endCondition .elementDown e else s.alarms }

theorem applyReply_restored (hx : s.elements.get? e = some x) (h : x.state = .down ∨ x.state = .verify) (supply : Option Supply) (level : Int) :
    s.applyReply e supply level = ((s.restored e x).requestSweep (.subtree e)).updateConditions e supply level := by
  rcases h with h | h <;> simp [State.applyReply, hx, h, State.restored] <;> rfl

theorem State.restored_get?_self (hx : s.elements.get? e = some x) (hparent : x.parent ≠ some e) : (s.restored e x).elements.get? e =
    some { x.answered with priority := if x.state = .verify then false else x.priority } := by
  simp [State.restored, hx, Element.answered, hparent]

theorem State.restored_get? {j : Nat} (hj : j ≠ e) : (s.restored e x).elements.get? j = (s.elements.get? j).map fun y =>
    if y.parent = some e then { y with state := .verify, miss := 0, priority := true } else y := by
  simp [State.restored, Table.get?_modify, hj.symm]

theorem State.under_restored (a b : Nat) : (s.restored e x).under a b = s.under a b := by
  refine State.under_congr (fun j => ?_) a b
  simp only [State.restored, Table.get?_mapAll, Option.map_map, Table.get?_modify]
  split <;> cases s.elements.get? j <;> simp [apply_ite Element.parent, Element.answered]

theorem supplyOf_eq (a : Byte) (old : Supply) : (supplyOf a).getD old =
    if a = 0#8 then .mains else if a = 1#8 then .battery else if a = 2#8 then .batteryLow else old := by
  unfold supplyOf
  split_ifs <;> rfl

theorem levelOf_eq (b : Byte) : levelOf b = if b = 0x80#8 then -127 else b.toInt := by
  have h : b.toInt = -128 ↔ b = 0x80#8 := ⟨fun h => BitVec.eq_of_toInt_eq h, fun h => h ▸ rfl⟩
  simp only [levelOf, h]

theorem Supply.onBattery_eq (y : Supply) : y.onBattery = decide (y = .battery ∨ y = .batteryLow) := by cases y <;> rfl

theorem Supply.isLow_eq (y : Supply) : y.isLow = decide (y = .batteryLow) := by cases y <;> rfl

theorem levelStands_eq (limit : Nat) (level : Option Int) :
    levelStands limit level = decide (∃ old, level = some old ∧ limit < old.natAbs) := by cases level <;> simp [levelStands]

/-- R70, R77: a valid poll reply is handed to its element. -/
theorem receive_pollReply {address : Nat} {priority retired : Bool} {a b : Byte} (hl : s.legs[leg]? = some l) (hawaiting : l.activity = .awaiting)
    (htimer : l.tryTimer ≠ 0) (hw : l.txn = some ⟨.poll e priority retired, address⟩) (hrx : l.rx = []) (haddress : address ≤ 65535)
    (htag : l.tag ≤ 255) : exec (.replyFrameReceived leg (legFrame address 0x02#8 l.tag [a, b])) s =
      .next (let u : State := { s with legs := s.legs.set leg (freed s { l with counters := { l.counters with
          valid := if l.counters.valid < 65535 then l.counters.valid + 1 else 65535 } }) }
        if retired then u else u.applyReply e (supplyOf a) (levelOf b)) := by
  rw [receive_legFrame hl hawaiting htimer hw hrx (b0 := a) (b1 := b) (.inr rfl) haddress htag]
  have hjudged : s.judge leg l.tag ⟨.poll e priority retired, address⟩ (.passed address 0x02#8 l.tag a b) =
      (s.countLeg leg fun c => { c with valid := up16 c.valid }).tryAnswered leg ⟨.poll e priority retired, address⟩ a b := by
    simp [State.judge, Work.kind, pollKind]
  rw [hjudged, State.tryAnswered]
  dsimp only
  rw [endTransaction_countLeg hl, up16_eq]

/-- Settles O44. -/
theorem repliesRestoreElements : Obligations.RepliesRestoreElements := by
  refine ⟨?_, fun s leg e address l priority a b hl hawaiting htimer hw hrx haddress htag => receive_pollReply hl hawaiting htimer hw hrx haddress htag⟩
  rintro s leg e address l priority x _ a b _ _ hl hawaiting htimer hw hrx haddress htag rfl hx hparent rfl rfl
  rw [receive_pollReply hl hawaiting htimer hw hrx haddress htag, if_neg Bool.false_ne_true, ← supplyOf_eq, ← levelOf_eq]
  generalize hlegs : s.legs.set leg _ = legs
  have hx' : ({ s with legs := legs } : State).elements.get? e = some x := hx
  have hcases : x.state = .shadowed ∨ (x.state = .up ∨ x.state = .suspect) ∨ (x.state = .down ∨ x.state = .verify) := by
    cases x.state <;> simp
  obtain hstate | hstate | hstate := hcases
  · rw [applyReply_shadowed hx' hstate]
    refine ⟨_, rfl, rfl, rfl, fun _ => ⟨rfl, rfl, rfl, rfl, rfl⟩, ?_, ?_, ?_, ?_⟩ <;> simp [hstate]
  · have hne : x.state ≠ .shadowed ∧ x.state ≠ .down ∧ x.state ≠ .verify := by rcases hstate with h | h <;> simp [h]
    obtain ⟨hshadowed, hdown, hverify⟩ := hne
    rw [applyReply_reachable hx' hstate, updateConditions_eq (x := x.answered) (by simp [State.updElement, hx])]
    refine ⟨_, rfl, rfl, rfl, fun h => absurd h hshadowed, fun _ => ?_, fun _ => ⟨fun j hj => ?_, rfl, rfl, rfl⟩, fun h => ?_, ?_⟩
    · simp [State.updElement, hx, Element.answered, hverify]
    · simp [State.updElement, Table.get?_modify, hj.symm]
    · rcases h with h | h <;> contradiction
    · rintro - _ _ _ _ rfl rfl rfl rfl
      simp [Supply.onBattery_eq, Supply.isLow_eq, levelStands_eq, hdown, State.updElement, State.now, Element.answered]
  · have hne : x.state ≠ .shadowed ∧ x.state ≠ .up ∧ x.state ≠ .suspect := by rcases hstate with h | h <;> simp [h]
    obtain ⟨hshadowed, hup, hsuspect⟩ := hne
    have hself := State.restored_get?_self (s := { s with legs := legs }) hx' hparent
    obtain ⟨htaps, hsweep, hscopes⟩ := State.requestSweep_congr (s := s) (t := State.restored { s with legs := legs } e x) rfl rfl rfl
      (fun a b => State.under_restored a b) (.subtree e)
    rw [applyReply_restored hx' hstate, updateConditions_eq (by simpa using hself), State.requestSweep_eq, htaps, hsweep, hscopes]
    refine ⟨_, rfl, rfl, rfl, fun h => absurd h hshadowed, fun _ => ?_, fun h => ?_, fun _ => ⟨fun j hj => ?_, rfl, rfl, rfl⟩, ?_⟩
    · simp [hself, Element.answered]
    · rcases h with h | h <;> contradiction
    · simp [Table.get?_modify, hj.symm, State.restored_get? hj]
    · rintro - _ _ _ _ rfl rfl rfl rfl
      simp [Supply.onBattery_eq, Supply.isLow_eq, levelStands_eq, State.restored, State.now, Element.answered]

end Sys2Proof.Machine
end

section
/-! PROOFS. The recovery of reply frames (O39): what is discarded, what is held, and what ends a try. -/

namespace Sys2Proof.Machine

variable {s : State} {leg : Nat} {l : Leg} {w : Transaction}

/-! ## A failed try and the legs

A try that fails writes its own leg in one way, whatever the legs hold, and nothing else depends on them. -/

/-- The leg that a failed try leaves does not depend on its try timer, and carries the counts of expired tries and of failed checks. -/
def ignoresCounts (f : Leg → Leg) : Prop :=
  ∀ (l : Leg) (timer expired checkFailures : Nat),
    f { l with counters := { l.counters with checkFailures := checkFailures } } =
      let l' := f { l with tryTimer := timer, counters := { l.counters with expired := expired } }
      { l' with counters := { l'.counters with expired := l.counters.expired, checkFailures := checkFailures } }

theorem ignoresCounts_freed (s : State) : ignoresCounts (freed s) := fun _ _ _ _ => rfl

theorem ignoresCounts_sent (s : State) (work : Work) (address : Nat) (kind : Byte) (body : List Byte) :
    ignoresCounts fun l => sent s l work address kind body := fun _ _ _ _ => rfl

theorem State.goDown_withLegs (s : State) (e : Nat) (legs : List Leg) :
    ({ s with legs := legs } : State).goDown e = { s.goDown e with legs := legs } := by
  unfold State.goDown
  dsimp only
  split
  · rfl
  · simp only [State.endDowns_eq] <;> rfl

theorem State.updElement_withLegs (s : State) (e : Nat) (f : Element → Element) (legs : List Leg) :
    ({ s with legs := legs } : State).updElement e f = { s.updElement e f with legs := legs } := rfl

theorem State.applyMiss_withLegs (s : State) (e : Nat) (legs : List Leg) :
    ({ s with legs := legs } : State).applyMiss e = { s.applyMiss e with legs := legs } := by
  cases hx : s.elements.get? e with
  | none => simp [State.applyMiss, hx]
  | some x =>
    have hx' : ({ s with legs := legs } : State).elements.get? e = some x := hx
    obtain hstate | hcounted | ⟨hstate, hmiss⟩ := missCases x s.topo.missThreshold
    · rw [applyMiss_shadowed hx hstate, applyMiss_shadowed hx' hstate]
    · rw [applyMiss_counted hx hcounted, applyMiss_counted hx' hcounted]
      rfl
    · rw [applyMiss_down hx hstate hmiss, applyMiss_down hx' hstate hmiss]
      rw [State.updElement_withLegs, State.goDown_withLegs]

theorem State.tapTryFailed_withLegs (s : State) (leg tap tries address : Nat) (q : QueueKind) : ∃ f, ignoresCounts f ∧
    ∀ legs, ({ s with legs := legs } : State).tapTryFailed leg tap tries q address =
      { s.tapTryFailed leg tap tries q address with legs := legs.modify leg f } := by
  cases hx : s.taps.get? tap with
  | none => exact ⟨_, ignoresCounts_freed s, fun legs => by simp only [State.tapTryFailed, hx] <;> rfl⟩
  | some x =>
    by_cases hheld : s.feedReachable x = true
    · by_cases htries : tries < s.link.retryLimit + 1
      · refine ⟨_, ignoresCounts_sent s (.tap tap (tries + 1) q (s.builtFor x)) address tapSetKind (tapSetBody (s.builtFor x)), fun legs => ?_⟩
        have hheld' : ({ s with legs := legs } : State).feedReachable x = true := hheld
        simp only [State.tapTryFailed, hx, hheld, hheld', htries, if_true, Bool.not_true, Bool.false_eq_true, if_false] <;> rfl
      · refine ⟨_, ignoresCounts_freed (s.goSilent tap), fun legs => ?_⟩
        have hheld' : ({ s with legs := legs } : State).feedReachable x = true := hheld
        simp only [State.tapTryFailed, hx, hheld, hheld', htries, Bool.not_true, Bool.false_eq_true, if_false]
        rfl
    · refine ⟨_, ignoresCounts_freed (s.returnHeld tap q), fun legs => ?_⟩
      have hheld' : ¬({ s with legs := legs } : State).feedReachable x = true := hheld
      simp only [State.tapTryFailed, hx, hheld, hheld', Bool.not_false, if_true]
      cases q <;> rfl

theorem State.tryFailed_withLegs (s : State) (leg : Nat) (w : Transaction) : ∃ f, ignoresCounts f ∧
    ∀ legs, ({ s with legs := legs } : State).tryFailed leg w = { s.tryFailed leg w with legs := legs.modify leg f } := by
  obtain ⟨⟨tap, tries, q, built⟩ | ⟨e, priority, retired⟩, address⟩ := w
  · exact s.tapTryFailed_withLegs leg tap tries address q
  · refine ⟨_, ignoresCounts_freed s, fun legs => ?_⟩
    cases retired with
    | true => rfl
    | false =>
      have hmiss (legs : List Leg) : ({ s with legs := legs } : State).tryFailed leg ⟨.poll e priority false, address⟩ =
          { s.applyMiss e with legs := legs.modify leg (freed s) } := State.applyMiss_withLegs s e (legs.modify leg (freed s))
      have hself : s.tryFailed leg ⟨.poll e priority false, address⟩ = { s.applyMiss e with legs := s.legs.modify leg (freed s) } := hmiss s.legs
      rw [hmiss, hself]

/-- R69, R71: a try that fails its check leaves what its timer running out would leave, but for the counts. -/
theorem tryFailed_check (hl : s.legs[leg]? = some l) (hw : l.txn = some w) :
    ∃ t : State, exec (.tryTimerExpiry leg) { s with legs := s.legs.set leg { l with tryTimer := 0 } } = .next t ∧
      (s.countLeg leg fun c => { c with checkFailures := up16 c.checkFailures }).tryFailed leg w =
        { t with legs := t.legs.modify leg fun l' => { l' with counters := { l'.counters with
            expired := l.counters.expired
            checkFailures := if l.counters.checkFailures < 65535 then l.counters.checkFailures + 1 else 65535 } } } := by
  obtain ⟨f, hf, hlegs⟩ := s.tryFailed_withLegs leg w
  have hset (l' : Leg) : (s.legs.set leg l').modify leg f = s.legs.set leg (f l') := by
    rw [List.modify_eq_set_getElem?, getElem?_set_of_leg hl]
    simp
  have hlegs' (l' : Leg) : ({ s with legs := s.legs.set leg l' } : State).tryFailed leg w =
      { s.tryFailed leg w with legs := s.legs.set leg (f l') } := by rw [hlegs, hset]
  have hexpired : exec (.tryTimerExpiry leg) { s with legs := s.legs.set leg { l with tryTimer := 0 } } = .next { s.tryFailed leg w with
      legs := s.legs.set leg (f { l with tryTimer := 0, counters := { l.counters with expired := up16 l.counters.expired } }) } := by
    rw [exec_tryTimerExpiry (l := { l with tryTimer := 0 }) (getElem?_set_of_leg hl _) hw, if_pos rfl, countLeg_eq (getElem?_set_of_leg hl _), List.set_set]
    exact congrArg _ (hlegs' _)
  refine ⟨_, hexpired, ?_⟩
  rw [countLeg_eq hl, hlegs', hf l 0 (up16 l.counters.expired) (up16 l.counters.checkFailures), up16_eq l.counters.checkFailures,
    List.modify_eq_set_getElem?, getElem?_set_of_leg hl]
  simp

/-! ## What the receiver makes of characters (R69, R181) -/

/-- R69: without a frame partly assembled, characters before a sync character are dropped. -/
theorem receive_noise (hl : s.legs[leg]? = some l) (hrx : l.rx = []) :
    ∀ noise : List Byte, syncChar ∉ noise → noise.foldl (State.receiveChar leg) s = s := by
  intro noise
  induction noise with
  | nil => exact fun _ => rfl
  | cons c noise ih =>
    intro h
    obtain ⟨hc, hrest⟩ := not_or.mp (List.mem_cons.not.mp h)
    have hchar : State.receiveChar leg s c = s := by
      by_cases hout : l.activity ≠ .awaiting ∨ l.tryTimer = 0
      · exact State.receiveChar_of_not_awaiting hl hout c
      · obtain ⟨hawaiting, htimer⟩ := not_or.mp hout
        cases hw : l.txn with
        | none => simp [State.receiveChar, hl, hw]
        | some w =>
          have htaken : taken [] c = [] := by simp [taken, Ne.symm hc]
          rw [State.receiveChar_of_awaiting hl (not_not.mp hawaiting) htimer hw, hrx, htaken, if_pos (show assembled [] = .incomplete from rfl), ← hrx]
          exact State.set_leg_self hl
    rw [List.foldl_cons, hchar, ih hrest]

/-- R69: a frame that fails the frame check fails it at its last character. -/
theorem failsCheck_assembled {chars : List Byte} (h : failsCheck chars) : ∃ cs c, chars = cs ++ [c] ∧ cs.head? = some syncChar ∧
    (∀ n, 0 < n → n ≤ cs.length → assembled (cs.take n) = .incomplete) ∧ assembled (cs ++ [c]) = .failed := by
  obtain ⟨a1, a0, kind, ⟨h1, h2, rfl⟩ | ⟨hk, tag, len, ⟨hlen, rfl⟩ | ⟨rfl, b0, b1, c1, c0, hcheck, rfl⟩⟩⟩ := h
  · refine ⟨[0x96#8, a1, a0], kind, rfl, rfl, fun n h0 hn => ?_, ?_⟩
    · simp only [List.length_cons, List.length_nil] at hn
      interval_cases n <;> rfl
    · simp [assembled, assemble, tapSetKind, pollKind, h1, h2]
  all_goals
    have hkind : ¬(kind ≠ tapSetKind ∧ kind ≠ pollKind) := fun h => hk.elim h.1 h.2
  · refine ⟨[0x96#8, a1, a0, kind, tag], len, rfl, rfl, fun n h0 hn => ?_, ?_⟩
    · simp only [List.length_cons, List.length_nil] at hn
      interval_cases n <;> simp [assembled, assemble, hkind]
    · simp [assembled, assemble, hkind, hlen]
  · refine ⟨[0x96#8, a1, a0, kind, tag, 2#8, b0, b1, c1], c0, rfl, rfl, fun n h0 hn => ?_, ?_⟩
    · simp only [List.length_cons, List.length_nil] at hn
      interval_cases n <;> simp [assembled, assemble, hkind]
    · have hne : (crc16 [a1, a0, kind, tag, 2#8, b0, b1]).toNat ≠ c1.toNat * 256 + c0.toNat := by
        intro heq
        refine hcheck (BitVec.eq_of_toNat_eq ?_)
        rw [BitVec.toNat_append, heq, Nat.shiftLeft_eq, ← Nat.shiftLeft_eq, ← Nat.shiftLeft_add_eq_or_of_lt c0.isLt, Nat.shiftLeft_eq]
      simp [assembled, assemble, hkind, hne]

/-- R181: the published check value of the generator. -/
theorem crc16_check : crc16 [0x31#8, 0x32#8, 0x33#8, 0x34#8, 0x35#8, 0x36#8, 0x37#8, 0x38#8, 0x39#8] = 0x29B1#16 := by
  simp [crc16, crcByte, crcBit]

/-- Settles O39. -/
theorem replyFramesAreRecovered : Obligations.ReplyFramesAreRecovered := by
  refine ⟨fun s t leg chars more h => ?_, fun s leg l chars hl hout => ?_, fun s leg l w hl hawaiting htimer hw hrx => ⟨fun noise hnoise => ?_,
    fun address tag n kind b0 b1 haddress htag hk h0 hn => ?_, fun address tag kind b0 b1 haddress htag hk hne => ?_, fun chars hfails => ?_⟩, crc16_check⟩
  · obtain rfl : chars.foldl (State.receiveChar leg) s = t := Host.Outcome.next.inj h
    exact congrArg _ List.foldl_append
  · have hchar (c : Byte) : State.receiveChar leg s c = s := by
      rcases hout with h | h | h
      · exact State.receiveChar_of_not_awaiting hl (.inl h) c
      · simp [State.receiveChar, hl, h]
      · exact State.receiveChar_of_not_awaiting hl (.inr h) c
    have hall : chars.foldl (State.receiveChar leg) s = s := by
      induction chars with
      | nil => rfl
      | cons c chars ih => rw [List.foldl_cons, hchar, ih]
    exact congrArg _ hall
  · exact congrArg _ (receive_noise hl hrx noise hnoise)
  · have hlength : ((legFrame address kind tag [b0, b1]).take n).length ≤ n := List.length_take_le ..
    have hhead : ((legFrame address kind tag [b0, b1]).take n).head? = some syncChar := by
      obtain ⟨m, rfl⟩ := Nat.exists_eq_succ_of_ne_zero h0.ne'
      rfl
    refine congrArg _ ((State.receive_incomplete leg w _ s l hl hawaiting htimer hw (.inr hhead) fun m _ hm => ?_).trans (by rw [hrx]; rfl))
    rw [hrx, List.nil_append, List.take_take]
    exact assembled_take hk (by omega)
  · rw [receive_legFrame hl hawaiting htimer hw hrx hk haddress htag]
    simp [State.judge, hne, countLeg_eq hl, up16_eq]
  · obtain ⟨t, hexpired, hchecked⟩ := tryFailed_check hl hw
    refine ⟨t, hexpired, ?_⟩
    rw [← hchecked]
    obtain hfails | ⟨kind, b0, b1, rfl, haddress, htag, hkind⟩ := hfails
    · obtain ⟨cs, c, rfl, hhead, hincomplete, hfailed⟩ := failsCheck_assembled hfails
      refine congrArg _ ((State.receive_frame hl hawaiting htimer hw hrx hhead hincomplete (by simp [hfailed])).trans ?_)
      rw [hfailed]
      rfl
    · have hkinds : (kind = 0x01#8 ∨ kind = 0x02#8) ∧ kind ≠ w.work.kind := by
        obtain ⟨_ | _, _⟩ := w
        · obtain rfl : kind = 0x02#8 := hkind
          exact ⟨.inr rfl, show (0x02#8 : Byte) ≠ tapSetKind by decide⟩
        · obtain rfl : kind = 0x01#8 := hkind
          exact ⟨.inl rfl, show (0x01#8 : Byte) ≠ pollKind by decide⟩
      rw [receive_legFrame hl hawaiting htimer hw hrx hkinds.1 haddress htag]
      simp [State.judge, hkinds.2]

end Sys2Proof.Machine
end

section
/-! PROOFS. The requests of the Plant Topology Table on one element (O45). -/

namespace Sys2Proof.Machine

variable {s : State} {body : List Byte} {x : Element}

theorem State.withElement_holds {e : Nat} (he : e ≤ 127) (hx : s.elements.get? e = some x) (rest : Element → Served) :
    s.withElement e rest = rest x := by
  simp [State.withElement, he.not_gt, hx]

/-! ## Enrolling (R89, R90) -/

/-- R89: the tests that every body passes first, and a leg root. -/
theorem enrolElementOwner_root (ha0 : u16 body 0 ≠ 0) (ha : u16 body 0 ≠ 65535) (hfree : s.addressTaken (u16 body 0) = false)
    (hroom : s.elements.length < 128) (hparent : u8 body 2 = 255) (hleg : u8 body 3 ≤ 3) :
    enrolElementOwner body s = s.enrolElement (newElement s.mode (u16 body 0) (u8 body 3) none) := by
  simp [enrolElementOwner, addressOk, ha0, ha, hfree, hroom.not_ge, hparent, hleg.not_gt]

theorem enrolElementOwner_child (ha0 : u16 body 0 ≠ 0) (ha : u16 body 0 ≠ 65535) (hfree : s.addressTaken (u16 body 0) = false)
    (hroom : s.elements.length < 128) {p : Element} (hparent : u8 body 2 ≤ 127) (hp : s.elements.get? (u8 body 2) = some p) (hdepth : p.depth ≠ 16) :
    enrolElementOwner body s = s.enrolElement (newElement s.mode (u16 body 0) (u8 body 3) (some (u8 body 2, p))) := by
  have hne : u8 body 2 ≠ 255 := by omega
  simp [enrolElementOwner, addressOk, ha0, ha, hfree, hroom.not_ge, hparent.not_gt, hne, hp, hdepth]

/-- R90: the record of a leg root. -/
theorem newElement_root (mode : DeviceMode) (address leg : Nat) : newElement mode address leg none =
    ⟨address, none, leg, 1, .suspect, 0, none, .unknown, none, decide (mode = .live), false⟩ := by cases mode <;> rfl

/-- R90: the record of a child whose parent is reachable, or that is enrolled in LOADING. -/
theorem newElement_reachable {mode : DeviceMode} {p : Element} (h : mode = .loading ∨ p.state = .up ∨ p.state = .suspect) (address leg parent : Nat) :
    newElement mode address leg (some (parent, p)) =
      ⟨address, some parent, p.leg, p.depth + 1, .suspect, 0, none, .unknown, none, decide (mode = .live), false⟩ := by
  have hentry : entryState mode (some p) = (.suspect, none, decide (mode = .live)) := by
    cases mode with
    | loading => rfl
    | live => simp [entryState, (ElementState.reachable_iff _).mpr (h.resolve_left nofun)]
  simp [newElement, hentry]

/-- R90: the record of a child enrolled in LIVE whose parent is not reachable. -/
theorem newElement_shadowed {p : Element} (h : p.state = .down ∨ p.state = .shadowed ∨ p.state = .verify) (address leg parent : Nat) :
    newElement .live address leg (some (parent, p)) =
      ⟨address, some parent, p.leg, p.depth + 1, .shadowed, 0, p.since, .unknown, none, false, false⟩ := by
  simp [newElement, entryState, ElementState.reachable_eq_false h]

/-! ## Retiring (R91) -/

theorem State.endIf_eq (s : State) (stands : Bool) (k : AlarmKind) (subject : Nat) :
    s.endIf stands k subject = { s with alarms := if stands then s.alarms.endCondition k subject else s.alarms } := by
  cases stands <;> rfl

theorem length_filter_eq_zero {α : Type} {l : List α} {p : α → Bool} (h : ∀ a ∈ l, p a = false) : (l.filter p).length = 0 := by
  simpa using h

/-- R77: the transaction of a leg when an element is retired. -/
theorem orphaned_eq (l : Leg) (e : Nat) : l.orphaned e = { l with txn := l.txn.map fun t => match t.work with
    | .poll e' p r => { t with work := .poll e' p (if e' = e then true else r) }
    | .tap _ _ _ _ => t } := by
  have hwork (t : Transaction) : (match t.work with
      | .poll e' priority retired => { t with work := .poll e' priority (retired || e' == e) }
      | .tap _ _ _ _ => t : Transaction) = match t.work with
        | .poll e' p r => { t with work := .poll e' p (if e' = e then true else r) }
        | .tap _ _ _ _ => t := by
    obtain ⟨_ | ⟨e', p, r⟩, a⟩ := t
    · rfl
    · by_cases h : e' = e <;> simp [h]
  unfold Leg.orphaned
  exact congrArg (fun f => { l with txn := l.txn.map f }) (funext hwork)

/-! ## Reading (R105, R106) -/

theorem polls_eq (l : Leg) (e : Nat) : l.polls e = (match l.txn with
    | some ⟨.poll e' _ false, _⟩ => decide (e' = e)
    | _ => false) := by
  rcases hw : l.txn with _ | ⟨_ | ⟨e', _, _ | _⟩, _⟩ <;> simp [Leg.polls, hw] <;> rfl

theorem wi8_eq (n : Int) : wi8 n = [BitVec.ofInt 8 n] := by
  simp only [wi8, w8, BitVec.ofNat_toNat, BitVec.setWidth_eq]

theorem elementBody_eq (s : State) (e : Nat) (x : Element) : s.elementBody e x = elementOctets s e x := by
  have hpolls : (s.legs.any fun l => l.polls e) = s.legs.any fun l => match l.txn with
      | some ⟨.poll e' _ false, _⟩ => decide (e' = e)
      | _ => false := congrArg s.legs.any (funext fun l => polls_eq l e)
  have hstate : x.state.code = (match x.state with | .up => 0 | .suspect => 1 | .down => 2 | .shadowed => 3 | .verify => 4) := by
    cases x.state <;> rfl
  have hsupply : x.supply.code = (match x.supply with | .mains => 0 | .battery => 1 | .batteryLow => 2 | .unknown => 3) := by
    cases x.supply <;> rfl
  rw [State.elementBody, elementOctets, hpolls, hstate, hsupply]
  cases x.parent <;> cases x.since <;> cases x.level <;> simp [wopt, wflag, State.childCount, State.fedCount, wi8_eq] <;> rfl

/-- R106: the first element from an index on whose state is in the set. -/
theorem nextElementOwner_eq {e : Nat} (hstart : u8 body 0 ≤ 128) (hwf : s.elements.wf = true) (hle : u8 body 0 ≤ e) (hx : s.elements.get? e = some x)
    (hin : (body.getD 1 0#8).getLsbD x.state.code = true)
    (hlow : ∀ j y, u8 body 0 ≤ j → j < e → s.elements.get? j = some y → (body.getD 1 0#8).getLsbD y.state.code = false) :
    nextElementOwner body s = s.served (s.elementBody e x) := by
  have hset : ¬(body.getD 1 0#8 &&& 0x1F#8 = 0#8) := by
    intro h
    have hcode : x.state.code < 5 := by cases x.state <;> decide
    have hbit : (body.getD 1 0#8 &&& 0x1F#8).getLsbD x.state.code = true := by
      rw [BitVec.getLsbD_and, hin]
      interval_cases x.state.code <;> rfl
    rw [h] at hbit
    simp at hbit
  have hfind := Table.find?_eq hwf (p := fun p => decide (u8 body 0 ≤ p.1) && inStateSet (body.getD 1 0#8) p.2.state) hx
    (by simpa [hle, inStateSet] using hin) fun j y hj hy => by
      by_cases hjs : u8 body 0 ≤ j
      · simpa [hjs, inStateSet] using hlow j y hjs hj hy
      · simp [hjs]
  simp only [nextElementOwner, hstart.not_gt, hset, or_self, if_false, hfind]

/-- Settles O45. -/
theorem elementRequests : Obligations.ElementRequests := by
  refine ⟨fun s body x hl hb ha0 ha htaps helements hroom hwf hcase => ?_, ?_, fun s body x hl hb he hx => ?_, fun s body e x hl hb hstart hwf hle hx hin hlow => ?_⟩
  · have hfree := State.addressTaken_eq_false htaps helements
    have howner : enrolElementOwner body s = s.enrolElement x := by
      obtain ⟨hparent, hleg, rfl⟩ | ⟨p, hparent, hp, hdepth, ⟨hreach, rfl⟩ | ⟨hlive, hdown, rfl⟩⟩ := hcase
      · rw [enrolElementOwner_root ha0 ha hfree hroom hparent hleg, newElement_root]
      · rw [enrolElementOwner_child ha0 ha hfree hroom hparent hp hdepth, newElement_reachable hreach]
      · rw [enrolElementOwner_child ha0 ha hfree hroom hparent hp hdepth, hlive, newElement_shadowed hdown]
    refine ⟨s.elements.lowestFree, s.elements.set s.elements.lowestFree x, ?_, Table.get?_lowestFree hwf,
      fun j hj => Table.get?_isSome_of_lt_lowestFree hj, Table.get?_set_self .., fun j hj => ?_⟩
    · simp only [exec, execEnrolElement, request_owner_both hl hb, howner]
      rfl
    · rw [Table.get?_set, if_neg hj.symm]
  · rintro s body _ x hl hb rfl he hx hchild hfed
    refine ⟨s.legs.map fun l => l.orphaned (u8 body 0), _, ?_, fun n l hn => ?_, rfl⟩
    · have hchildren : s.childCount (u8 body 0) = 0 := length_filter_eq_zero fun p hp => by simpa using hchild p.1 p.2 hp
      have hfeeds : s.fedCount (u8 body 0) = 0 := length_filter_eq_zero fun p hp => by simpa using hfed p.1 p.2 hp
      simp only [exec, execRetireElement, request_owner_both hl hb, retireElementOwner, State.withElement_holds he hx, hchildren, hfeeds,
        ne_eq, not_true_eq_false, if_false, State.endConditions, State.endIf_eq, Supply.onBattery_eq, Supply.isLow_eq, levelStands_eq,
        decide_eq_true_eq]
      rfl
    · rw [List.getElem?_map, hn, Option.map_some, orphaned_eq] <;> rfl
  · simp only [exec, execReadElement, request_owner_both hl hb, State.withElement_holds he hx, elementBody_eq]
    rfl
  · simp only [exec, execNextElement, request_owner_both hl hb, nextElementOwner_eq hstart hwf hle hx hin hlow, elementBody_eq]
    rfl

end Sys2Proof.Machine
end

section
/-! PROOFS. Set Topology Parameters (O46): the tree, the elements a lower threshold takes DOWN in their order, and the levels tested again. -/

namespace Sys2Proof.Machine

variable {s : State} {a b e j threshold : Nat} {x y : Element} {tops : List Nat}

/-! ## The tree (R88) -/

section Tree

variable (hr : s.Rooted)
include hr

theorem underFrom_fuel : ∀ (fuel : Nat) (e : Nat) (x : Element), s.elements.get? e = some x → x.depth ≤ fuel →
    underFrom s.elements a (fuel + 1) e = underFrom s.elements a fuel e := by
  intro fuel
  induction fuel with
  | zero =>
    intro e x hx hdepth
    rcases hr.place e x hx with ⟨-, h⟩ | ⟨p, y, -, -, h, -⟩ <;> omega
  | succ fuel ih =>
    intro e x hx hdepth
    rw [underFrom, underFrom, hx]
    rcases hr.place e x hx with ⟨hp, -⟩ | ⟨p, y, hp, hy, hdeep, -⟩
    · simp [hp]
    · simp [hp, ih p y hy (by omega)]

/-- What lies under an element: the element, and what has its parent there. -/
theorem under_iff (hx : s.elements.get? e = some x) : s.under a e = true ↔ e = a ∨ ∃ p, x.parent = some p ∧ s.under a p = true := by
  have hunfold : s.under a e = (e == a || match x.parent with | none => false | some p => underFrom s.elements a 15 p) := by
    rw [State.under, underFrom, hx] <;> rfl
  rw [hunfold]
  rcases hr.place e x hx with ⟨hp, -⟩ | ⟨p, y, hp, hy, hdeep, -⟩
  · simp [hp]
  · have hfuel := underFrom_fuel hr (a := a) 15 p y hy (by have := hr.depth e x hx; omega)
    simp [hp, State.under, hfuel]

end Tree

theorem under_self (s : State) (e : Nat) : s.under e e = true := by simp [State.under, underFrom]

theorem under_of_absent (h : s.elements.get? e = none) : s.under a e = true ↔ e = a := by simp [State.under, underFrom, h]

section Tree

variable (hr : s.Rooted)
include hr

/-- Whatever holds of the leg roots, and of an element when it holds of its parent, holds of every element. -/
theorem Rooted_induction {p : Nat → Element → Prop} (hroot : ∀ e x, s.elements.get? e = some x → x.parent = none → p e x)
    (hchild : ∀ e x i y, s.elements.get? e = some x → x.parent = some i → s.elements.get? i = some y → x.depth = y.depth + 1 → p i y → p e x)
    (hx : s.elements.get? e = some x) : p e x := by
  induction hd : x.depth generalizing e x with
  | zero => rcases hr.place e x hx with ⟨hp, -⟩ | ⟨i, y, -, -, h, -⟩ <;> [exact hroot e x hx hp; omega]
  | succ d ih =>
    rcases hr.place e x hx with ⟨hp, -⟩ | ⟨i, y, hp, hy, hdeep, -⟩
    · exact hroot e x hx hp
    · exact hchild e x i y hx hp hy hdeep (ih hy (by omega))

/-- An element above another one is in the table, and is less deep. -/
theorem depth_lt_of_under (hx : s.elements.get? e = some x) : s.under a e = true → a ≠ e → ∃ y, s.elements.get? a = some y ∧ y.depth < x.depth := by
  refine Rooted_induction hr (p := fun e x => s.under a e = true → a ≠ e → ∃ y, s.elements.get? a = some y ∧ y.depth < x.depth)
    (fun e x hx hp h hne => ?_) (fun e x i y hx hp hy hdeep ih h hne => ?_) hx
  · obtain h | ⟨p, hp', -⟩ := (under_iff hr hx).mp h
    · exact absurd h.symm hne
    · simp [hp] at hp'
  · obtain h | ⟨p, hp', hu⟩ := (under_iff hr hx).mp h
    · exact absurd h.symm hne
    · obtain rfl : i = p := Option.some.inj (hp.symm.trans hp')
      by_cases hai : a = i
      · exact ⟨y, hai ▸ hy, by omega⟩
      · obtain ⟨z, hz, hlt⟩ := ih hu hai
        exact ⟨z, hz, by omega⟩

theorem under_trans (hab : s.under a b = true) (hbe : s.under b e = true) : s.under a e = true := by
  cases hx : s.elements.get? e with
  | none => rwa [(under_of_absent hx).mp hbe]
  | some x =>
    refine Rooted_induction hr (p := fun e _ => s.under b e = true → s.under a e = true) (fun e x hx hp h => ?_)
      (fun e x i y hx hp _ _ ih h => ?_) hx hbe
    · obtain rfl | ⟨p, hp', -⟩ := (under_iff hr hx).mp h
      · exact hab
      · simp [hp] at hp'
    · obtain rfl | ⟨p, hp', hu⟩ := (under_iff hr hx).mp h
      · exact hab
      · obtain rfl : i = p := Option.some.inj (hp.symm.trans hp')
        exact (under_iff hr hx).mpr (.inr ⟨i, hp, ih hu⟩)

/-- Of two elements above a third, one is above the other. -/
theorem under_total (ha : s.under a e = true) (hb : s.under b e = true) : s.under a b = true ∨ s.under b a = true := by
  cases hx : s.elements.get? e with
  | none =>
    rw [(under_of_absent hx).mp ha] at hb
    exact .inr hb
  | some x =>
    refine Rooted_induction hr (p := fun e _ => s.under a e = true → s.under b e = true → s.under a b = true ∨ s.under b a = true)
      (fun e x hx hp ha hb => ?_) (fun e x i y hx hp _ _ ih ha hb => ?_) hx ha hb
    all_goals
      obtain rfl | ⟨p, hp', ha'⟩ := (under_iff hr hx).mp ha
      · exact .inr hb
      obtain rfl | ⟨q, hq', hb'⟩ := (under_iff hr hx).mp hb
      · exact .inl ha
    · simp [hp] at hp'
    · obtain rfl : i = p := Option.some.inj (hp.symm.trans hp')
      obtain rfl : i = q := Option.some.inj (hp.symm.trans hq')
      exact ih ha' hb'

theorem under_antisymm (hx : s.elements.get? a = some x) (hab : s.under a b = true) (hba : s.under b a = true) : a = b := by
  by_contra hne
  obtain ⟨y, hy, hlt⟩ := depth_lt_of_under hr hx hba (Ne.symm hne)
  obtain ⟨z, hz, hlt'⟩ := depth_lt_of_under hr hy hab hne
  obtain rfl : x = z := Option.some.inj (hx.symm.trans hz)
  omega

/-! ## The elements that go DOWN -/

/-- R104: over an element that the threshold finds, or is one, there is one that goes DOWN. -/
theorem exists_goesDown (h : overThreshold s threshold e) : ∃ top, goesDown s threshold top ∧ s.under top e = true := by
  obtain ⟨x, hx, hstate⟩ := h
  induction hd : x.depth using Nat.strong_induction_on generalizing e x with
  | _ d ih =>
    by_cases htop : ∀ a, a ≠ e → s.under a e = true → ¬overThreshold s threshold a
    · exact ⟨e, ⟨⟨x, hx, hstate⟩, htop⟩, under_self s e⟩
    · push Not at htop
      obtain ⟨a, hne, ha, y, hy, hover⟩ := htop
      obtain ⟨z, hz, hlt⟩ := depth_lt_of_under hr hx ha hne
      obtain rfl : y = z := Option.some.inj (hy.symm.trans hz)
      obtain ⟨top, htop, hu⟩ := ih y.depth (by omega) y hy hover rfl
      exact ⟨top, htop, under_trans hr hu ha⟩

/-- R104: no element that goes DOWN lies under another. -/
theorem goesDown_apart (ha : goesDown s threshold a) (hb : goesDown s threshold b) (hae : s.under a e = true) (hbe : s.under b e = true) : a = b := by
  by_contra hne
  rcases under_total hr hae hbe with h | h
  · exact hb.2 a hne h ha.1
  · exact ha.2 b (Ne.symm hne) h hb.1

end Tree

/-! ## Several elements that go DOWN in turn -/

/-- R95: what an element becomes when `top` goes DOWN. -/
def State.falls (s : State) (e : Nat) (x : Element) (top : Nat) : Element :=
  if e = top then x.lowered
  else if s.under top e = true ∧ x.state ≠ .shadowed then x.shadow ((s.elements.get? top).bind Element.since) else x

/-- R95: the tables when some elements, none under another, have gone DOWN in turn. -/
def State.lowerAll (s : State) (tops : List Nat) : State :=
  { s with
    elements := s.elements.mapAll fun e x => tops.foldl (s.falls e) x
    alarms := tops.foldl (fun a e => (s.fallenBelow e).foldl (fun a j => a.endCondition .elementDown j)
      (a.raise .elementDown e .condition s.now)) s.alarms }

theorem State.falls_of_not_under (h : s.under a e = false) (x : Element) : s.falls e x a = x := by
  have hne : e ≠ a := by
    rintro rfl
    simp [under_self] at h
  simp [State.falls, hne, h]

theorem State.falls_parent (s : State) (e : Nat) (x : Element) (top : Nat) : (s.falls e x top).parent = x.parent := by
  unfold State.falls
  split_ifs <;> rfl

theorem State.falls_depth (s : State) (e : Nat) (x : Element) (top : Nat) : (s.falls e x top).depth = x.depth := by
  unfold State.falls
  split_ifs <;> rfl

theorem State.falls_level (s : State) (e : Nat) (x : Element) (top : Nat) : (s.falls e x top).level = x.level := by
  unfold State.falls
  split_ifs <;> rfl

/-- An element that has fallen with another falls no further with it. -/
theorem State.falls_falls (s : State) (e : Nat) (x : Element) (top : Nat) : s.falls e (s.falls e x top) top = s.falls e x top := by
  unfold State.falls
  split_ifs <;> simp_all [Element.lowered, Element.shadow]

theorem foldl_falls_keeps {α : Type} {f : Element → α} (h : ∀ s e x top, f (State.falls s e x top) = f x) (tops : List Nat) (x : Element) :
    f (tops.foldl (s.falls e) x) = f x := by
  induction tops generalizing x with
  | nil => rfl
  | cons top tops ih => rw [List.foldl_cons, ih, h]

theorem foldl_falls_of_not_under (h : ∀ top ∈ tops, s.under top e = false) (x : Element) : tops.foldl (s.falls e) x = x := by
  induction tops with
  | nil => rfl
  | cons top tops ih =>
    obtain ⟨htop, hrest⟩ := List.forall_mem_cons.mp h
    rw [List.foldl_cons, State.falls_of_not_under htop, ih hrest]

theorem foldl_falls_of_fallen {top : Nat} (h : ∀ a ∈ tops, s.under a e = true → a = top) (x : Element) :
    tops.foldl (s.falls e) (s.falls e x top) = s.falls e x top := by
  induction tops with
  | nil => rfl
  | cons a tops ih =>
    obtain ⟨ha, hrest⟩ := List.forall_mem_cons.mp h
    rw [List.foldl_cons]
    cases hu : s.under a e with
    | false => rw [State.falls_of_not_under hu, ih hrest]
    | true => rw [ha hu, State.falls_falls, ih hrest]

/-- An element falls with the one of some elements that is above it. -/
theorem foldl_falls_of_under {top : Nat} (h : ∀ a ∈ tops, s.under a e = true → a = top) (hmem : top ∈ tops) (hu : s.under top e = true)
    (x : Element) : tops.foldl (s.falls e) x = s.falls e x top := by
  induction tops with
  | nil => cases hmem
  | cons a tops ih =>
    obtain ⟨ha, hrest⟩ := List.forall_mem_cons.mp h
    rw [List.foldl_cons]
    cases hua : s.under a e with
    | false =>
      have hne : top ≠ a := by
        rintro rfl
        simp [hu] at hua
      rw [State.falls_of_not_under hua, ih hrest (List.mem_of_ne_of_mem hne hmem)]
    | true => rw [ha hua, foldl_falls_of_fallen hrest]

theorem State.under_lowerAll (tops : List Nat) (a j : Nat) : (s.lowerAll tops).under a j = s.under a j := by
  refine State.under_congr (fun i => ?_) a j
  rw [State.lowerAll, Table.get?_mapAll]
  cases s.elements.get? i <;> simp [foldl_falls_keeps State.falls_parent]

theorem fallenBelow_lowerAll (h : ∀ j, s.under e j = true → ∀ top ∈ tops, s.under top j = false) :
    (s.lowerAll tops).fallenBelow e = s.fallenBelow e := by
  unfold State.fallenBelow
  simp only [State.under_lowerAll]
  rw [State.lowerAll, Table.mapAll, List.filter_map, List.map_map]
  refine congrArg (List.map Prod.fst) (List.filter_congr fun p _ => ?_)
  cases hu : s.under e p.1 with
  | false => simp [hu]
  | true => simp [hu, foldl_falls_of_not_under (h p.1 hu)]

/-- R95: one more element goes DOWN, untouched by those before it. -/
theorem goDown_lowerAll (hx : s.elements.get? e = some x) (h : ∀ j, s.under e j = true → ∀ top ∈ tops, s.under top j = false) :
    (s.lowerAll tops).goDown e = s.lowerAll (tops ++ [e]) := by
  have hget : (s.lowerAll tops).elements.get? e = some x := by
    simp [State.lowerAll, hx, foldl_falls_of_not_under (h e (under_self s e))]
  rw [State.goDown_eq hget, fallenBelow_lowerAll h]
  simp only [State.under_lowerAll]
  simp only [State.lowerAll, Table.mapAll, List.map_map, List.foldl_append, List.foldl_cons, List.foldl_nil]
  simp [State.falls, hx, State.now]

end Sys2Proof.Machine
end

section
/-! PROOFS. Set Topology Parameters (O46): the elements are taken by depth and index, and exactly the highest at or above the threshold go DOWN. -/

namespace Sys2Proof.Machine

variable {s : State} {body : List Byte} {a b e j depth : Nat} {x y : Element} {tops : List Nat}

/-! ## The order in which elements are taken -/

/-- R104: by depth, then by index. -/
def State.precedes (s : State) (e f : Nat) : Prop :=
  ∃ x y, s.elements.get? e = some x ∧ s.elements.get? f = some y ∧ (x.depth < y.depth ∨ (x.depth = y.depth ∧ e < f))

theorem State.precedes_irrefl (s : State) (e : Nat) : ¬s.precedes e e := by
  rintro ⟨x, y, hx, hy, h⟩
  obtain rfl : x = y := Option.some.inj (hx.symm.trans hy)
  omega

theorem State.precedes_antisymm {e f : Nat} (hef : s.precedes e f) (hfe : s.precedes f e) : e = f := by
  obtain ⟨x, y, hx, hy, h⟩ := hef
  obtain ⟨y', x', hy', hx', h'⟩ := hfe
  obtain rfl : x = x' := Option.some.inj (hx.symm.trans hx')
  obtain rfl : y = y' := Option.some.inj (hy.symm.trans hy')
  omega

theorem eq_of_precedes {l l' : List Nat} (h : l.Pairwise s.precedes) (h' : l'.Pairwise s.precedes) (hmem : ∀ e, e ∈ l ↔ e ∈ l') : l = l' := by
  have hirrefl : Std.Irrefl s.precedes := ⟨s.precedes_irrefl⟩
  have hantisymm : Std.Antisymm s.precedes := ⟨fun _ _ => State.precedes_antisymm⟩
  exact h.eq_of_mem_iff h' hmem

/-! ## One element tested -/

/-- The elements that have gone DOWN when those that `done` admits have been tested. -/
structure State.Lowered (s : State) (done : Nat → Element → Prop) (tops : List Nat) : Prop where
  mem : ∀ e, e ∈ tops ↔ goesDown s s.topo.missThreshold e ∧ ∃ x, s.elements.get? e = some x ∧ done e x
  sorted : tops.Pairwise s.precedes

theorem State.Lowered.congr {done done' : Nat → Element → Prop} (h : s.Lowered done tops)
    (hd : ∀ e x, goesDown s s.topo.missThreshold e → s.elements.get? e = some x → (done e x ↔ done' e x)) : s.Lowered done' tops where
  mem e := (h.mem e).trans (and_congr_right fun he => exists_congr fun x => and_congr_right (hd e x he))
  sorted := h.sorted

theorem State.get?_lowerAll (hx : s.elements.get? e = some x) : (s.lowerAll tops).elements.get? e = some (tops.foldl (s.falls e) x) := by
  simp [State.lowerAll, hx]

/-- R95: an element below one that has gone DOWN, and not one of them, is SHADOWED. -/
theorem state_of_fallen (he : e ∉ tops) (hmem : a ∈ tops) (hu : s.under a e = true) (hone : ∀ b ∈ tops, s.under b e = true → b = a) :
    (tops.foldl (s.falls e) x).state = .shadowed := by
  have hne : e ≠ a := fun h => he (h ▸ hmem)
  rw [foldl_falls_of_under hone hmem hu, State.falls, if_neg hne]
  by_cases hs : x.state = .shadowed <;> simp [hs, hu, Element.shadow]

theorem retestMisses_otherDepth (hx : s.elements.get? e = some x) (hd : x.depth ≠ depth) :
    (s.lowerAll tops).retestMisses depth e = s.lowerAll tops := by
  unfold State.retestMisses
  rw [State.get?_lowerAll hx]
  exact if_neg fun h => hd ((foldl_falls_keeps State.falls_depth tops x).symm.trans h.1)

theorem lowerAll_nil (s : State) : s.lowerAll [] = s := by simp [State.lowerAll, Table.mapAll]

section Pass

variable (hr : s.Rooted)
include hr

/-- R104: an element that goes DOWN when it is tested. -/
theorem retestMisses_goesDown {done : Nat → Element → Prop} (htops : s.Lowered done tops) (hdown : goesDown s s.topo.missThreshold e)
    (hx : s.elements.get? e = some x) (hnot : ¬done e x) : (s.lowerAll tops).retestMisses x.depth e = s.lowerAll (tops ++ [e]) := by
  have he : e ∉ tops := by
    intro he
    obtain ⟨y, hy, hd⟩ := ((htops.mem e).mp he).2
    exact hnot (Option.some.inj (hx.symm.trans hy) ▸ hd)
  have hfree : ∀ j, s.under e j = true → ∀ top ∈ tops, s.under top j = false := by
    intro j hj top htop
    rw [← Bool.not_eq_true]
    intro hu
    exact he (goesDown_apart hr ((htops.mem top).mp htop).1 hdown hu hj ▸ htop)
  have hself : (s.lowerAll tops).elements.get? e = some x := by
    rw [State.get?_lowerAll hx, foldl_falls_of_not_under (hfree e (under_self s e))]
  obtain ⟨y, hy, hover⟩ := hdown.1
  obtain rfl : x = y := Option.some.inj (hx.symm.trans hy)
  unfold State.retestMisses
  rw [hself]
  exact (if_pos ⟨rfl, hover⟩).trans (goDown_lowerAll hx hfree)

/-- R104: an element that does not go DOWN is left as it is, once the less deep ones have been tested. -/
theorem retestMisses_stays {done : Nat → Element → Prop} (htops : s.Lowered done tops) (hx : s.elements.get? e = some x)
    (hup : ∀ j y, s.elements.get? j = some y → y.depth < x.depth → done j y) (hnot : ¬goesDown s s.topo.missThreshold e) :
    (s.lowerAll tops).retestMisses x.depth e = s.lowerAll tops := by
  have he : e ∉ tops := fun he => hnot ((htops.mem e).mp he).1
  unfold State.retestMisses
  rw [State.get?_lowerAll hx]
  refine if_neg ?_
  rintro ⟨-, hstate, hmiss⟩
  by_cases hu : ∃ a ∈ tops, s.under a e = true
  · obtain ⟨a, ha, hu⟩ := hu
    have hshadowed := state_of_fallen (x := x) he ha hu fun b hb hub =>
      goesDown_apart hr ((htops.mem b).mp hb).1 ((htops.mem a).mp ha).1 hub hu
    rcases hstate with h | h <;> simp [hshadowed] at h
  · push Not at hu
    rw [foldl_falls_of_not_under fun a ha => by simpa using hu a ha] at hstate hmiss
    obtain ⟨top, htop, hu'⟩ := exists_goesDown hr ⟨x, hx, hstate, hmiss⟩
    have hne : top ≠ e := by
      rintro rfl
      exact hnot htop
    obtain ⟨y, hy, hlt⟩ := depth_lt_of_under hr hx hu' hne
    exact hu top ((htops.mem top).mpr ⟨htop, y, hy, hup top y hy hlt⟩) hu'

/-! ## The passes -/

/-- R104: the elements of one depth, by index. -/
theorem pass_lowerAll (hwf : s.elements.wf = true) : ∀ (post pre tops : List Nat), s.elements.map Prod.fst = pre ++ post →
    s.Lowered (fun e x => x.depth < depth ∨ x.depth = depth ∧ e ∈ pre) tops →
    ∃ tops', s.Lowered (fun e x => x.depth < depth ∨ x.depth = depth ∧ e ∈ pre ++ post) tops' ∧
      post.foldl (fun u e => u.retestMisses depth e) (s.lowerAll tops) = s.lowerAll tops' := by
  intro post
  induction post with
  | nil => exact fun pre tops _ h => ⟨tops, by simpa using h, rfl⟩
  | cons e post ih =>
    intro pre tops hkeys htops
    have hsorted := (Table.wf_iff _).mp hwf
    rw [hkeys] at hsorted
    obtain ⟨x, hx⟩ : ∃ x, s.elements.get? e = some x := by
      have hmem : e ∈ s.elements.map Prod.fst := by simp [hkeys]
      obtain ⟨p, hp, rfl⟩ := List.mem_map.mp hmem
      exact ⟨p.2, (Table.get?_eq_some_iff hwf p.1 p.2).mpr hp⟩
    have hpre : ∀ k ∈ pre, k < e := fun k hk => (List.pairwise_append.mp hsorted).2.2 k hk e (by simp)
    have hkeys' : s.elements.map Prod.fst = (pre ++ [e]) ++ post := by simp [hkeys]
    have hgoal : ∀ tops', s.Lowered (fun e' x => x.depth < depth ∨ x.depth = depth ∧ e' ∈ pre ++ [e]) tops' →
        (s.lowerAll tops).retestMisses depth e = s.lowerAll tops' →
        ∃ tops', s.Lowered (fun e' x => x.depth < depth ∨ x.depth = depth ∧ e' ∈ pre ++ e :: post) tops' ∧
          (e :: post).foldl (fun u e => u.retestMisses depth e) (s.lowerAll tops) = s.lowerAll tops' := by
      intro tops' htops' hstep
      obtain ⟨tops'', h, hfold⟩ := ih (pre ++ [e]) tops' hkeys' htops'
      refine ⟨tops'', by simpa using h, ?_⟩
      rw [List.foldl_cons, hstep, hfold]
    by_cases hdown : goesDown s s.topo.missThreshold e ∧ x.depth = depth
    · obtain ⟨hdown, rfl⟩ := hdown
      refine hgoal (tops ++ [e]) ⟨fun j => ?_, ?_⟩ (retestMisses_goesDown hr htops hdown hx ?_)
      · rw [List.mem_append, htops.mem]
        constructor
        · rintro (⟨hj, y, hy, hd⟩ | hj)
          · exact ⟨hj, y, hy, hd.imp_right fun h => ⟨h.1, List.mem_append_left _ h.2⟩⟩
          · obtain rfl := List.mem_singleton.mp hj
            exact ⟨hdown, x, hx, .inr ⟨rfl, by simp⟩⟩
        · rintro ⟨hj, y, hy, hd | ⟨hd, hmem⟩⟩
          · exact .inl ⟨hj, y, hy, .inl hd⟩
          · rcases List.mem_append.mp hmem with hmem | hmem
            · exact .inl ⟨hj, y, hy, .inr ⟨hd, hmem⟩⟩
            · exact .inr hmem
      · refine List.pairwise_append.mpr ⟨htops.sorted, List.pairwise_singleton _ _, fun k hk f hf => ?_⟩
        obtain rfl := List.mem_singleton.mp hf
        obtain ⟨-, y, hy, hd⟩ := (htops.mem k).mp hk
        exact ⟨y, x, hy, hx, hd.imp_right fun h => ⟨h.1, hpre k h.2⟩⟩
      · rintro (h | ⟨-, h⟩)
        · omega
        · exact absurd (hpre e h) (lt_irrefl e)
    · refine hgoal tops (htops.congr fun j y hj hy => or_congr Iff.rfl (and_congr_right fun hd => ?_)) ?_
      · have hne : j ≠ e := by
          rintro rfl
          exact hdown ⟨hj, Option.some.inj (hx.symm.trans hy) ▸ hd⟩
        simp [hne]
      · by_cases hd : x.depth = depth
        · subst hd
          exact retestMisses_stays hr htops hx (fun _ _ _ h => .inl h) fun h => hdown ⟨h, rfl⟩
        · exact retestMisses_otherDepth hx hd

/-- R104: the elements of the lesser depths. -/
theorem passes_lowerAll (hwf : s.elements.wf = true) (n : Nat) : ∃ tops, s.Lowered (fun _ x => x.depth ≤ n) tops ∧
    (List.range n).foldl (fun u d => (u.elements.map Prod.fst).foldl (fun u e => u.retestMisses (d + 1) e) u) s = s.lowerAll tops := by
  induction n with
  | zero =>
    refine ⟨[], ⟨fun e => ⟨nofun, ?_⟩, .nil⟩, (lowerAll_nil s).symm⟩
    rintro ⟨-, x, hx, hd⟩
    rcases hr.place e x hx with ⟨-, h⟩ | ⟨_, _, -, -, h, -⟩ <;> omega
  | succ n ih =>
    obtain ⟨tops, htops, hfold⟩ := ih
    have hbegin : s.Lowered (fun e x => x.depth < n + 1 ∨ x.depth = n + 1 ∧ e ∈ ([] : List Nat)) tops :=
      htops.congr fun e x _ _ => by simp only [List.not_mem_nil, and_false, or_false, Nat.lt_succ_iff]
    obtain ⟨tops', htops', hpass⟩ := pass_lowerAll hr hwf (s.elements.map Prod.fst) [] tops rfl hbegin
    refine ⟨tops', htops'.congr fun e x _ hx => ?_, ?_⟩
    · have hmem : e ∈ s.elements.map Prod.fst := List.mem_map_of_mem (f := Prod.fst) (Table.mem_of_get? hx)
      simp only [List.nil_append, hmem, and_true]
      omega
    · have hkeys : (s.lowerAll tops).elements.map Prod.fst = s.elements.map Prod.fst :=
        Table.mapAll_keys s.elements fun e x => tops.foldl (s.falls e) x
      rw [List.range_succ, List.foldl_append, hfold, List.foldl_cons, List.foldl_nil, hkeys, hpass]

/-- R104: what the test of the miss counts leaves. -/
theorem applyThreshold_eq (hwf : s.elements.wf = true) : ∃ tops, (∀ e, e ∈ tops ↔ goesDown s s.topo.missThreshold e) ∧
    tops.Pairwise s.precedes ∧ s.applyThreshold = s.lowerAll tops := by
  obtain ⟨tops, htops, hfold⟩ := passes_lowerAll hr hwf 16
  refine ⟨tops, fun e => (htops.mem e).trans (and_iff_left_of_imp fun h => ?_), htops.sorted, hfold⟩
  obtain ⟨x, hx, -⟩ := h.1
  exact ⟨x, hx, hr.depth e x hx⟩

end Pass

/-! ## What the tests write -/

/-- The tests of the miss counts write elements and alarms, and change no element's number and level. -/
def State.SameLevels (s t : State) : Prop :=
  t = { s with elements := t.elements, alarms := t.alarms } ∧
  t.elements.map (fun p => (p.1, p.2.level)) = s.elements.map fun p => (p.1, p.2.level)

theorem State.SameLevels.refl (s : State) : s.SameLevels s := ⟨rfl, rfl⟩

theorem State.SameLevels.trans {t u : State} (hst : s.SameLevels t) (htu : t.SameLevels u) : s.SameLevels u := by
  obtain ⟨ht, htl⟩ := hst
  obtain ⟨hu, hul⟩ := htu
  rw [ht] at hu
  exact ⟨hu, hul.trans htl⟩

theorem foldl_sameLevels {α : Type} {f : State → α → State} (h : ∀ (u : State) (k : α), u.SameLevels (f u k)) (l : List α) (s : State) :
    s.SameLevels (l.foldl f s) := by
  induction l generalizing s with
  | nil => exact .refl s
  | cons k l ih => exact (h s k).trans (ih _)

theorem goDown_sameLevels (s : State) (e : Nat) : s.SameLevels (s.goDown e) := by
  cases hx : s.elements.get? e with
  | none => simpa [State.goDown, hx] using State.SameLevels.refl s
  | some x =>
    rw [State.goDown_eq hx]
    refine ⟨rfl, ?_⟩
    simp only [Table.mapAll, List.map_map]
    refine List.map_congr_left fun p _ => congrArg (Prod.mk p.1) ?_
    dsimp only
    split_ifs <;> rfl

theorem applyThreshold_sameLevels (s : State) : s.SameLevels s.applyThreshold := by
  have hone (u : State) (d e : Nat) : u.SameLevels (u.retestMisses d e) := by
    unfold State.retestMisses
    split
    · exact .refl u
    · split
      · exact goDown_sameLevels u e
      · exact .refl u
  exact foldl_sameLevels (fun u d => foldl_sameLevels (fun u e => hone u (d + 1) e) _ u) _ s

/-! ## Levels tested again (R103, R104) -/

/-- R104: the alarms after the test of the levels. -/
def levelAlarms (a : AlarmUnit) (now : Stamp) (old new : Nat) (e : Nat) (level : Option Int) : AlarmUnit :=
  followed a .elementLevel e now (levelStands old level) (levelStands new level)

theorem retestLevels_eq (s : State) (old : Nat) : s.retestLevels old = { s with
    alarms := (s.elements.map fun p => (p.1, p.2.level)).foldl (fun a p => levelAlarms a s.now old s.topo.levelLimit p.1 p.2) s.alarms } := by
  have hfold (l : Table Element) (u : State) : l.foldl (fun u p =>
        u.followCondition .elementLevel p.1 (levelStands old p.2.level) (levelStands u.topo.levelLimit p.2.level)) u =
      { u with alarms := l.foldl (fun a p => levelAlarms a u.now old u.topo.levelLimit p.1 p.2.level) u.alarms } := by
    induction l generalizing u with
    | nil => rfl
    | cons p l ih =>
      rw [List.foldl_cons, ih, State.followCondition_eq]
      rfl
  rw [List.foldl_map]
  exact hfold s.elements s

theorem levelAlarms_eq (a : AlarmUnit) (now : Stamp) (old new e : Nat) (level : Option Int) : levelAlarms a now old new e level =
    match level with
    | none => a
    | some level =>
      if ¬ old < level.natAbs ∧ new < level.natAbs then a.raise .elementLevel e .condition now
      else if old < level.natAbs ∧ ¬ new < level.natAbs then a.endCondition .elementLevel e
      else a := by
  cases level with
  | none => rfl
  | some level =>
    by_cases hold : old < level.natAbs <;> by_cases hnew : new < level.natAbs <;> simp [levelAlarms, levelStands, hold, hnew, followed]

/-- The state in which Set Topology Parameters tests the levels. -/
def State.thresholdSet (s : State) (threshold limit : Nat) : State :=
  if threshold < s.topo.missThreshold then State.applyThreshold { s with topo := ⟨threshold, limit⟩ } else { s with topo := ⟨threshold, limit⟩ }

theorem thresholdSet_sameLevels (s : State) (threshold limit : Nat) :
    State.SameLevels { s with topo := ⟨threshold, limit⟩ } (s.thresholdSet threshold limit) := by
  unfold State.thresholdSet
  split
  · exact applyThreshold_sameLevels _
  · exact .refl _

theorem setTopologyOwner_eq (h1 : 1 ≤ u8 body 0) (h2 : u8 body 0 ≤ 15) (h3 : 1 ≤ u8 body 1) (h4 : u8 body 1 ≤ 127) :
    setTopologyOwner body s = ((s.thresholdSet (u8 body 0) (u8 body 1)).retestLevels s.topo.levelLimit).served [] := by
  unfold setTopologyOwner
  dsimp only
  rw [if_neg (by omega)]
  rfl

/-- Settles O46. -/
theorem topologyParametersTakeEffect : Obligations.TopologyParametersTakeEffect := by
  intro s body hl hb h1 h2 h3 h4
  obtain ⟨hwrites, hlevels⟩ := thresholdSet_sameLevels s (u8 body 0) (u8 body 1)
  generalize ht : s.thresholdSet (u8 body 0) (u8 body 1) = t at hwrites hlevels
  have hretest : t.retestLevels s.topo.levelLimit = { s with
      topo := ⟨u8 body 0, u8 body 1⟩, elements := t.elements
      alarms := (s.elements.map fun p => (p.1, p.2.level)).foldl
        (fun a p => levelAlarms a ⟨s.clock.minute, s.clock.second⟩ s.topo.levelLimit (u8 body 1) p.1 p.2) t.alarms } := by
    rw [retestLevels_eq, hlevels, hwrites]
    rfl
  refine ⟨t.retestLevels s.topo.levelLimit, t.alarms, _, ?_, rfl, ?_, ?_, fun hhigh => ?_, fun hlow hwf hr => ?_⟩
  · simp only [exec, execSetTopologyParameters, request_owner_both hl hb, setTopologyOwner_eq h1 h2 h3 h4, ht]
    rfl
  · rw [hretest]
  · rw [hretest, List.foldl_map]
    simp only [levelAlarms_eq] <;> rfl
  · have hsame : t = { s with topo := ⟨u8 body 0, u8 body 1⟩ } := ht.symm.trans (if_neg hhigh.not_gt)
    rw [hretest, hsame]
    exact ⟨rfl, rfl⟩
  · have hr' : State.Rooted { s with topo := ⟨u8 body 0, u8 body 1⟩ } := ⟨hr.place, hr.depth⟩
    obtain ⟨tops, hmem, hsorted, hlowered⟩ := applyThreshold_eq hr' hwf
    have hmem' (e : Nat) : e ∈ tops ↔ goesDown s (u8 body 0) e := hmem e
    have happly : t = State.lowerAll { s with topo := ⟨u8 body 0, u8 body 1⟩ } tops := ht.symm.trans ((if_pos hlow).trans hlowered)
    have helements : (t.retestLevels s.topo.levelLimit).elements = s.elements.mapAll fun e x => tops.foldl (s.falls e) x := by
      rw [hretest, happly]
      rfl
    rw [helements]
    simp only [Table.get?_mapAll]
    refine ⟨fun e hx => by simp [hx], fun e x hx => ⟨fun hdown => ?_, fun top y hne hdown hu hy => ?_, fun hnone => ?_⟩, fun tops' htops' hsorted' => ?_⟩
    · have hone : ∀ a ∈ tops, s.under a e = true → a = e := fun a ha hu => goesDown_apart hr ((hmem' a).mp ha) hdown hu (under_self s e)
      rw [hx, Option.map_some, foldl_falls_of_under hone ((hmem' e).mpr hdown) (under_self s e), State.falls, if_pos rfl]
      rfl
    · have hone : ∀ a ∈ tops, s.under a e = true → a = top := fun a ha hua => goesDown_apart hr ((hmem' a).mp ha) hdown hua hu
      rw [hx, Option.map_some, foldl_falls_of_under hone ((hmem' top).mpr hdown) hu, State.falls, if_neg (Ne.symm hne), hy, Option.bind_some]
      by_cases hshadowed : x.state = .shadowed
      · simp [hshadowed]
      · simp [hshadowed, hu, Element.shadow] <;> rfl
    · rw [hx, Option.map_some, foldl_falls_of_not_under fun a ha => hnone a ((hmem' a).mp ha)]
    · have hpairs : tops'.Pairwise s.precedes := hsorted'.imp_of_mem fun {e f} he hf h => by
        obtain ⟨x, hx, -⟩ := ((htops' e).mp he).1
        obtain ⟨y, hy, -⟩ := ((htops' f).mp hf).1
        exact ⟨x, y, hx, hy, h x y hx hy⟩
      obtain rfl : tops' = tops := eq_of_precedes hpairs hsorted fun e => (htops' e).trans (hmem' e).symm
      rw [happly]
      rfl

end Sys2Proof.Machine
end

section
/-! PROOFS. The time base (chapter 6): edges, pulses and the loss of the reference (O47), and the clock requests (O48). -/

namespace Sys2Proof.Machine

variable {s : State} {body : List Byte}

/-! ## Second edges and minute boundaries (R109, R110, R113 to R115) -/

theorem secondEdge_before (hs : s.clock.second < 59) (byPulse : Bool) :
    s.secondEdge byPulse = { s with clock := { s.clock with second := s.clock.second + 1, phase := 0, pulseMark := byPulse } } := by
  have hmod : (s.clock.second + 1) % 60 = s.clock.second + 1 := Nat.mod_eq_of_lt (by omega)
  simp [State.secondEdge, hs.ne, hmod]

/-- R113: the state at a minute boundary, before the Billing Unit has it. -/
def State.minuteStarts (s : State) (byPulse : Bool) : State :=
  { s with
    clock := { s.clock with minute := nextMinute s.clock.minute, second := 0, phase := 0, pulseMark := byPulse }
    announced := ⟨s.announced.lineUp ++ [nextMinute s.clock.minute], s.announced.events ++ [nextMinute s.clock.minute],
      s.announced.taps ++ [nextMinute s.clock.minute]⟩ }

theorem secondEdge_loading (hs : s.clock.second = 59) (hm : s.mode = .loading) (byPulse : Bool) :
    s.secondEdge byPulse = s.minuteStarts byPulse := by
  simp only [State.secondEdge, hs, if_true, State.minuteBoundary, hm, State.minuteStarts] <;> rfl

theorem secondEdge_live (hs : s.clock.second = 59) (hm : s.mode = .live) (byPulse : Bool) :
    s.secondEdge byPulse = (s.minuteStarts byPulse).handBoundary ⟨s.clock.minute, s.billing.closeMark (nextMinute s.clock.minute)⟩ := by
  simp only [State.secondEdge, hs, if_true, State.minuteBoundary, hm, State.minuteStarts] <;> rfl

theorem handBoundary_start (hp : s.billing.pass = none) (b : HeldBoundary) : s.handBoundary b = s.startPass b := by
  simp [State.handBoundary, hp]

theorem handBoundary_hold (hp : s.billing.pass.isSome) (hc : s.clock.pending = none) (b : HeldBoundary) :
    s.handBoundary b = { s with clock := { s.clock with pending := some b } } := by
  obtain ⟨pass, hp⟩ := Option.isSome_iff_exists.mp hp
  simp [State.handBoundary, hp, hc]

theorem handBoundary_slip (hp : s.billing.pass.isSome) {held : HeldBoundary} (hc : s.clock.pending = some held) (b : HeldBoundary) :
    s.handBoundary b = { s with
      clock := { s.clock with pending := some ⟨held.minute, if b.close.isSome then b.close else held.close⟩ }
      billing := { s.billing with slipped := if s.billing.slipped < 65535 then s.billing.slipped + 1 else 65535 }
      alarms := s.alarms.raise .meterSlip 0 .occurrence s.now } := by
  obtain ⟨pass, hp⟩ := Option.isSome_iff_exists.mp hp
  simp only [State.handBoundary, hp, hc, up16_eq]
  cases b.close <;> rfl

theorem secondEdge_isEdge (s : State) (byPulse : Bool) : isEdge byPulse s (s.secondEdge byPulse) := by
  refine ⟨fun hs => secondEdge_before hs byPulse, ?_⟩
  rintro hs _ _ _ _ rfl rfl rfl rfl
  refine ⟨fun hm => ?_, fun hm hp => ?_, fun hm hp hc => ?_, fun hm hp held hc => ?_⟩
  · exact secondEdge_loading hs hm byPulse
  · rw [secondEdge_live hs hm, handBoundary_start (s := s.minuteStarts byPulse) hp]
    rfl
  · rw [secondEdge_live hs hm, handBoundary_hold (s := s.minuteStarts byPulse) hp hc]
    rfl
  · rw [secondEdge_live hs hm, handBoundary_slip (s := s.minuteStarts byPulse) hp hc]
    rfl

/-! ## Reference pulses (R110) -/

theorem pulseTaken_eq (s : State) : s.pulseTaken = pulseTakenIn s := by
  simp only [State.pulseTaken, pulseTakenIn, up16_eq]
  split_ifs <;> rfl

/-- R110: an edge placed by a pulse differs from one the crystal makes by the pulse mark and by what the clock keeps of the reference. -/
theorem secondEdge_withReference (s : State) (ref : RefState) (loss : Option Nat) (holdover : Option Stamp) (taken : Nat) :
    State.secondEdge { s with clock := { s.clock with ref := ref, lossTimer := loss, holdover := holdover, taken := taken } } true =
      { s.secondEdge false with clock := { (s.secondEdge false).clock with
          ref := ref, lossTimer := loss, holdover := holdover, taken := taken, pulseMark := true } } := by
  by_cases hs : s.clock.second = 59
  · obtain hm | hm : s.mode = .loading ∨ s.mode = .live := by cases s.mode <;> simp
    · rw [secondEdge_loading hs hm, secondEdge_loading (by exact hs) (by exact hm)] <;> rfl
    · rw [secondEdge_live hs hm, secondEdge_live (by exact hs) (by exact hm)]
      obtain hp | hp : s.billing.pass = none ∨ s.billing.pass.isSome := by cases s.billing.pass <;> simp
      · rw [handBoundary_start (by exact hp), handBoundary_start (by exact hp)] <;> rfl
      · obtain hc | ⟨held, hc⟩ := s.clock.pending.eq_none_or_eq_some
        · rw [handBoundary_hold (by exact hp) (by exact hc), handBoundary_hold (by exact hp) (by exact hc)] <;> rfl
        · rw [handBoundary_slip (by exact hp) (by exact hc), handBoundary_slip (by exact hp) (by exact hc)] <;> rfl
  · have hplain (u : State) (h : u.clock.second ≠ 59) (byPulse : Bool) : u.secondEdge byPulse = { u with
        clock := { u.clock with second := (u.clock.second + 1) % 60, phase := 0, pulseMark := byPulse } } := if_neg h
    rw [hplain s hs, hplain _ (by exact hs)]

theorem secondEdge_clock (s : State) (byPulse : Bool) : (s.secondEdge byPulse).clock.ref = s.clock.ref ∧
    (s.secondEdge byPulse).clock.taken = s.clock.taken ∧ (s.secondEdge byPulse).clock.phase = 0 ∧
    (s.secondEdge byPulse).clock.pulseMark = byPulse := by
  unfold State.secondEdge State.minuteBoundary State.handBoundary
  dsimp only
  (repeat' split) <;> simp [State.startPass, State.announce, State.raiseOccurrence]

theorem pulseTaken_eq_of_ne (h : s.clock.ref ≠ .holdover) : s.pulseTaken = { s with clock := { s.clock with
    ref := .tracking, lossTimer := some 0, holdover := none, taken := up16 s.clock.taken } } := by
  simp [State.pulseTaken, h]

/-- Settles O47. -/
theorem edgesPulsesAndTheLossOfTheReference : Obligations.EdgesPulsesAndTheLossOfTheReference := by
  intro s
  refine ⟨fun hp => ⟨_, ?_, secondEdge_isEdge s false⟩, fun hp => ?_, fun hr hp => ?_, fun hr => ?_, fun hr hp => ⟨_, ?_, secondEdge_isEdge _ true⟩,
    fun hr hp hmark => ?_, fun hr hp hmark => ?_, fun ms hms hearly => ?_, fun ms hms hlate hr => ?_, fun hr => ?_⟩
  · simp [exec, execSecondEdge, TimeBase.edgeDue, hp]
  · simp [exec, execSecondEdge, TimeBase.edgeDue, Nat.not_le.mpr hp]
  · have hne : s.clock.ref ≠ .notSelected ∧ s.clock.ref ≠ .holdover := by rcases hr with h | h <;> simp [h]
    obtain ⟨hselected, hholdover⟩ := hne
    obtain ⟨href, htaken, hphase, hmark⟩ := secondEdge_clock s false
    have hedge : s.pulseTaken.secondEdge true = { (s.secondEdge false).pulseTaken with
        clock := { (s.secondEdge false).pulseTaken.clock with phase := 0, pulseMark := true } } := by
      rw [pulseTaken_eq_of_ne hholdover, pulseTaken_eq_of_ne (href ▸ hholdover), secondEdge_withReference, htaken, ← hphase]
    refine ⟨s.secondEdge false, s.pulseTaken.secondEdge true, s.pulseTaken.secondEdge true, ?_, ?_, ?_, ?_⟩
    · simp [exec, execSecondEdge, TimeBase.edgeDue, hp]
    · simp [exec, execReferencePulse, href, hselected, hphase, hmark, hedge]
    · have hlate : 500 ≤ s.clock.phase := by omega
      simp [exec, execReferencePulse, hselected, hlate]
    · simp [exec, execSecondEdge, TimeBase.edgeDue, (secondEdge_clock s.pulseTaken true).2.2.1]
  · simp [exec, execReferencePulse, hr]
  · simp [exec, execReferencePulse, hr, hp, pulseTaken_eq]
  · simp [exec, execReferencePulse, hr, Nat.not_le.mpr hp, hmark, pulseTaken_eq]
  · simp [exec, execReferencePulse, hr, Nat.not_le.mpr hp, hmark, up16_eq]
  · cases href : s.clock.ref <;> simp [exec, execLossTimerExpiry, href, TimeBase.lossDue, hms, Nat.not_le.mpr hearly]
  · rcases hr with h | h <;> simp [exec, execLossTimerExpiry, h, TimeBase.lossDue, hms, hlate, State.loseReference, State.raiseCondition, State.now, up16_eq]
  · rcases hr with h | h <;> simp [exec, execLossTimerExpiry, h]

/-! ## The clock requests (R112, R116, R117, R119) -/

theorem setReference_select (h : s.clock.ref = .notSelected) : s.setReference true =
    { s with clock := { s.clock with ref := .acquiring, lossTimer := some 0, pulseMark := false } } := by simp [State.setReference, h]

theorem setReference_deselect (h : s.clock.ref ≠ .notSelected) : s.setReference false = { s with
    clock := { s.clock with ref := .notSelected, lossTimer := none, holdover := none }
    alarms := if s.clock.ref = .holdover then s.alarms.endCondition .refLost 0 else s.alarms } := by
  simp only [State.setReference, h, Bool.false_eq_true, if_false]
  split_ifs <;> rfl

theorem setReference_same (select : Bool) (h : select = true ↔ s.clock.ref ≠ .notSelected) : s.setReference select = s := by
  cases select <;> simp_all [State.setReference]

theorem exec_setReference (hl : s.listening) (hb : body.length = 1) : exec (.setReference body) s =
    .next ((s.setReference (flagAt body 0)).replied 1 ⟨.ok, w8 (s.setReference (flagAt body 0)).clock.ref.code⟩) := by
  simp only [exec, execSetReference, request_owner_both hl hb]
  rfl

theorem exec_adjustClock (hl : s.listening) (hb : body.length = 1) (h : u8 body 0 ≤ 59) : exec (.adjustClock body) s = .next ({ s with
    clock := { s.clock with second := u8 body 0, phase := 0, pulseMark := false } }.replied 1 ⟨.ok, w32 s.clock.minute ++ w8 (u8 body 0)⟩) := by
  simp only [exec, execAdjustClock, request_owner_both hl hb, adjustClockOwner, if_neg h.not_gt]
  rfl

theorem secondEdge_listening (hl : s.listening) (byPulse : Bool) : (s.secondEdge byPulse).listening := by
  have hport : (s.secondEdge byPulse).port = s.port := by simp
  simpa only [State.listening, hport] using hl

/-- Settles O48. -/
theorem clockRequests : Obligations.ClockRequests := by
  intro s body hl
  refine ⟨fun hb => ⟨fun hselect href => ?_, fun hselect href => ?_, fun hselect href => ?_, fun hselect href => ?_, exec_adjustClock hl hb, fun hsecond hp => ?_⟩,
    fun hb hsecond => ⟨fun hm => ?_, fun hm => ?_⟩, ?_⟩
  · have hflag : flagAt body 0 = true := by simpa [flagAt] using hselect
    rw [exec_setReference hl hb, hflag, setReference_select href]
    rfl
  · have hflag : flagAt body 0 = true := by simpa [flagAt] using hselect
    rw [exec_setReference hl hb, hflag, setReference_same true (by simp [href])]
  · have hflag : flagAt body 0 = false := by simpa [flagAt] using hselect
    rw [exec_setReference hl hb, hflag, setReference_deselect href]
    rfl
  · have hflag : flagAt body 0 = false := by simpa [flagAt] using hselect
    rw [exec_setReference hl hb, hflag, setReference_same false (by simp [href]), href]
    rfl
  · refine ⟨s.secondEdge false, _, _, ?_, exec_adjustClock (secondEdge_listening hl false) hb hsecond, rfl, rfl, exec_adjustClock hl hb hsecond, ?_, rfl, rfl⟩
    · simp [exec, execSecondEdge, TimeBase.edgeDue, hp]
    · simp [exec, execSecondEdge, TimeBase.edgeDue, State.replied]
  · simp only [exec, execSetClock, request_owner_both hl hb, setClockOwner, if_neg hsecond.not_gt, hm]
    rfl
  · simp only [exec, execSetClock, request_owner_both hl hb, setClockOwner, if_neg hsecond.not_gt, hm]
    rfl
  · simp only [exec, execReadClock]
    rw [request_owner_both (length := 0) (body := []) hl rfl]
    refine congrArg _ (congrArg (State.replied s 0) (congrArg (Response.mk .ok) ?_))
    have hselected : wflag s.clock.selected = w8 (if s.clock.ref = .notSelected then 0 else 1) := by
      by_cases h : s.clock.ref = .notSelected <;> simp [TimeBase.selected, wflag, h]
    rw [clockBody, hselected]
    cases s.clock.lossTimer <;> cases s.clock.holdover <;> cases s.clock.pending <;> simp [wopt, wflag, wstamp] <;> rfl

end Sys2Proof.Machine
end

section
/-! PROOFS. The requests on money (O49) and the Billing Unit's own requests (O50). -/

namespace Sys2Proof.Machine

variable {s : State} {i : Nat} {r r1 : Subscriber} {body : List Byte}

/-! ## Money (R134 to R136) -/

/-- R5, R6: a record replaced, with the state that follows: a change of state makes the urgent need of a bound record. -/
theorem replaced_requestChange_eq {account : Nat} (h : s.holds account i r) (hstate : r1.state = r.state) (htap : r1.tapPort = r.tapPort)
    (x : SubState) : (s.updSub i fun _ => r1).requestChange i r1 x =
      if x = r.state then s.withSub i { r1 with state := x } else (s.withSub i { r1 with state := x }).needFor r.tapPort := by
  by_cases hx : x = r.state
  · obtain rfl : x = r1.state := hx.trans hstate.symm
    rw [if_pos hx, replaced_requestChange_self]
  · rw [if_neg hx, replaced_requestChange h r1 (fun h' => hx (h'.symm.trans hstate)), htap]

theorem topUpOwner_eq {old : Nat} (hr : s.holds (u32 body 0) i r) (hopen : r.state ≠ .closed) (hpurse : r.purse = .prepaid old)
    (hlow : 1 ≤ u32 body 4) (hhigh : u32 body 4 ≤ 99999999) : topUpOwner body s =
      let after := min (old + u32 body 4) 99999999
      let x := if r.state = .lapsed then .active else r.state
      State.served ((s.updSub i fun _ => { r with purse := .prepaid after }).requestChange i { r with purse := .prepaid after } x)
        (w32 (after - old) ++ wi32 after ++ w8 x.code) := by
  have hrestorable (after : Nat) (h : 0 < after) : (Subscriber.restorable { r with purse := .prepaid after } = true) = (r.state = .lapsed) := by
    simp [Subscriber.restorable, h]
  rw [topUpOwner, amountOk, State.withAccount_holds hr]
  simp only [hpurse, hopen, hlow, hhigh, decide_true, Bool.and_self, Bool.not_true, Bool.false_eq_true, if_false, clampCents,
    hrestorable (min (old + u32 body 4) 99999999) (by omega)]

theorem postPaymentOwner_eq {owed : Int} {ceiling : Nat} (hr : s.holds (u32 body 0) i r) (hopen : r.state ≠ .closed)
    (hpurse : r.purse = .account owed ceiling) (hlow : 1 ≤ u32 body 4) (hhigh : u32 body 4 ≤ 99999999) : postPaymentOwner body s =
      let after := max (-99999999) (min (owed - u32 body 4) 99999999)
      let x := if r.state = .lapsed ∧ after ≤ ceiling then .active else r.state
      State.served ((s.updSub i fun _ => { r with purse := .account after ceiling }).requestChange i { r with purse := .account after ceiling } x)
        (wi32 (owed - after) ++ wi32 after ++ w8 x.code) := by
  rw [postPaymentOwner, amountOk, State.withAccount_holds hr]
  simp only [hpurse, hopen, hlow, hhigh, decide_true, Bool.and_self, Bool.not_true, Bool.false_eq_true, if_false, clampSigned]
  rfl

theorem postAdjustmentOwner_eq (hr : s.holds (u32 body 0) i r) (hopen : r.state ≠ .closed) (hlow : -99999999 ≤ i32 body 4)
    (hhigh : i32 body 4 ≤ 99999999) : postAdjustmentOwner body s =
      State.served ((s.updSub i fun _ => (r.adjusted (i32 body 4)).1).requestChange i (r.adjusted (i32 body 4)).1
        (r.adjusted (i32 body 4)).1.adjustedState)
        (wi32 (r.adjusted (i32 body 4)).2.1 ++ wi32 (r.adjusted (i32 body 4)).2.2 ++ w8 (r.adjusted (i32 body 4)).1.adjustedState.code) := by
  rw [postAdjustmentOwner, if_neg (by omega), State.withAccount_holds hr, if_neg hopen]

/-- R136: the state a PREPAID record takes. -/
theorem adjustedState_prepaid {after : Nat} (h : r1.purse = .prepaid after) : r1.adjustedState =
    if r1.state = .active ∧ after = 0 then .lapsed else if r1.state = .lapsed ∧ 0 < after then .active else r1.state := by
  simp [Subscriber.adjustedState, Purse.spent, Subscriber.restorable, h]

theorem adjustedState_account {owed : Int} {ceiling : Nat} (h : r1.purse = .account owed ceiling) : r1.adjustedState = r1.state := by
  simp [Subscriber.adjustedState, Purse.spent, Subscriber.restorable, h]

/-- Settles O49. -/
theorem moneyRequests : Obligations.MoneyRequests := by
  intro s body i r x hl hb hr hopen
  refine ⟨?_, ?_, ?_⟩
  · rintro old _ hpurse hlow hhigh rfl rfl
    refine ⟨_, rfl, ?_⟩
    simp only [exec, execTopUp, request_owner_both hl hb, topUpOwner_eq hr hopen hpurse hlow hhigh]
    rw [replaced_requestChange_eq hr (by rfl) (by rfl)]
    rfl
  · rintro owed _ ceiling hpurse hlow hhigh rfl rfl
    refine ⟨_, rfl, ?_⟩
    simp only [exec, execPostPayment, request_owner_both hl hb, postPaymentOwner_eq hr hopen hpurse hlow hhigh]
    rw [replaced_requestChange_eq hr (by rfl) (by rfl)]
    rfl
  · rintro _ rfl hlow hhigh
    simp only [exec, execPostAdjustment, request_owner_both hl hb, postAdjustmentOwner_eq hr hopen hlow hhigh]
    refine ⟨?_, ?_⟩
    · rintro owed _ ceiling hpurse rfl
      have hadjusted : r.adjusted (i32 body 4) = ({ r with adjCents := clampSigned (r.adjCents + i32 body 4) },
          clampSigned (r.adjCents + i32 body 4) - r.adjCents, owed) := by simp only [Subscriber.adjusted, hpurse]
      rw [hadjusted]
      dsimp only
      rw [adjustedState_account (by exact hpurse), replaced_requestChange_eq hr (by rfl) (by rfl), if_pos rfl]
      rfl
    · rintro old after hpurse hafter rfl
      have hadjusted : r.adjusted (i32 body 4) = ({ r with
            purse := .prepaid after, adjCents := max (-99999999) (min (r.adjCents - ((after : Int) - old)) 99999999) },
          (after : Int) - old, (after : Int)) := by
        simp only [Subscriber.adjusted, hpurse, ← hafter, Int.toNat_natCast, clampSigned]
      refine ⟨_, rfl, ?_⟩
      rw [hadjusted]
      dsimp only
      rw [adjustedState_prepaid rfl, replaced_requestChange_eq hr (by rfl) (by rfl)]
      rfl

/-! ## Statements and billing (R137 to R140) -/

/-- Settles O50. -/
theorem statementsAndBillingRequests : Obligations.StatementsAndBillingRequests := by
  refine ⟨fun s body i r x hl hb hr hslot => ?_, fun s body start hl hm hb hstart hpass hpending hnow hlow hhigh => ?_,
    fun s body hl hb hlow hhigh hthreshold => ?_, fun s hl => ?_⟩
  · simp only [exec, execCollectStatement, request_owner_both hl hb, collectStatementOwner, State.withAccount_holds hr, hslot,
      State.updSub_holds hr, statementBody]
    refine congrArg _ (congrArg (State.replied _ 4) (congrArg (Response.mk .ok) ?_))
    cases r.purse <;> simp [Purse.modeCode, wflag] <;> rfl
  · have hquiet : s.closeUnderWay = false := by
      simp only [State.closeUnderWay, Bool.or_eq_false_iff]
      constructor
      · cases hp : s.billing.pass with
        | none => rfl
        | some p => simp [hpass p hp]
      · cases hp : s.clock.pending with
        | none => rfl
        | some b => simp [hpending b hp]
    simp only [exec, execSetNextClose]
    rw [request_owner hl hb (by simp [Modes.allow, hm]), setNextCloseOwner, hquiet]
    dsimp only
    rw [if_neg Bool.false_ne_true, if_neg (by simp only [hstart, Option.getD_some]; omega)]
    simp only [hstart]
    rfl
  · simp only [exec, execSetBillingParameters]
    rw [request_owner_both hl hb, setBillingOwner, if_neg (by omega)]
    rfl
  · simp only [exec, execReadBilling]
    rw [request_owner_both (length := 0) (body := []) hl rfl]
    refine congrArg _ (congrArg (State.replied s 0) (congrArg (Response.mk .ok) ?_))
    rw [billingBody]
    cases s.billing.start <;> cases s.billing.nextClose <;> rcases s.billing.pass with _ | ⟨minute, next, _ | close⟩ <;>
      simp [wopt, wflag, passBody] <;> rfl

end Sys2Proof.Machine
end

section
/-! PROOFS. One metered minute (O51): the rate sum, the outage episode, and the visit of a metering pass. -/

namespace Sys2Proof.Machine

variable {s t : State} {i : Nat} {r r1 : Subscriber}

/-! ## A record at an index -/

/-- The subscriber table is in order and holds a record at an index. -/
structure State.Keeping (s : State) (i : Nat) (r : Subscriber) : Prop where
  wf : s.subs.wf = true
  get : s.subs.get? i = some r

theorem State.Keeping.updSub (h : s.Keeping i r) (f : Subscriber → Subscriber) : s.updSub i f = s.withSub i (f r) := by
  simp only [State.updSub, State.withSub, Table.modify_eq_const h.wf h.get f]

theorem State.Keeping.withSub (h : s.Keeping i r) (r1 : Subscriber) : (s.withSub i r1).Keeping i r1 :=
  ⟨Table.wf_modify h.wf i fun _ => r1, by simp [State.withSub, h.get]⟩

theorem State.Keeping.withSub_self (h : s.Keeping i r) : s.withSub i r = s := by
  rw [← h.updSub fun r => r, State.updSub, Table.modify_id fun _ => rfl]

theorem needFor_withSub (s : State) (i : Nat) (r : Subscriber) (p : Option PortRef) :
    (s.withSub i r).needFor p = (s.needFor p).withSub i r := by
  simpa [State.settling, State.withSub] using needFor_settling s i r s.events p

theorem State.Keeping.changed (h : s.Keeping i r) (r1 : Subscriber) : (changedByThePart s i r1).Keeping i r1 := by
  obtain ⟨hwf, hget⟩ := h.withSub r1
  exact ⟨by simpa [changedByThePart] using hwf, by simpa [changedByThePart] using hget⟩

/-- R5: an automatic change, written as the record it leaves. -/
theorem State.Keeping.automaticChange (h : s.Keeping i r) (x : SubState) :
    s.automaticChange i r x = changedByThePart s i { r with state := x, changed := true } := by
  rw [State.automaticChange, h.updSub]
  simp only [State.raiseOccurrence, State.now, changedByThePart, State.needFor_frame]
  rfl

theorem changedByThePart_withSub (s : State) (i : Nat) (a b : Subscriber) (htap : a.tapPort = b.tapPort) :
    (changedByThePart s i a).withSub i b = changedByThePart s i b := by
  have hneed : ((s.withSub i a).needFor a.tapPort).withSub i b = (s.withSub i b).needFor b.tapPort := by
    rw [← needFor_withSub, withSub_withSub, htap]
  exact congrArg (fun u : State => { u with alarms := s.alarms.raise .creditChange 0 .occurrence ⟨s.clock.minute, s.clock.second⟩ }) hneed

theorem withSub_changedByThePart (s : State) (i : Nat) (a b : Subscriber) : changedByThePart (s.withSub i a) i b = changedByThePart s i b := by
  rw [changedByThePart, withSub_withSub]
  rfl

/-! ## The rate sum and the outage (R101, R122, R125) -/

theorem rateSumFrom_eq (set : BitVec 16) (tiers : List Tier) (n : Nat) : rateSumFrom set n tiers =
    ((List.range tiers.length).map fun k => if set.getLsbD (n + k) then ((tiers[k]?).map Tier.rate).getD 0 else 0).sum := by
  induction tiers generalizing n with
  | nil => rfl
  | cons t rest ih =>
    rw [rateSumFrom, ih, List.length_cons, List.range_succ_eq_map, List.map_cons, List.sum_cons, List.map_map]
    refine congrArg₂ _ rfl (congrArg List.sum (List.map_congr_left fun k _ => ?_))
    simp [Nat.add_assoc, Nat.add_comm 1 k]

theorem rateSum_eq (h : s.tiers.length = 16) (r : Subscriber) : s.rateSum r = rateOfSet s r.tiers := by
  rw [State.rateSum, rateSumFrom_eq, h]
  simp only [Nat.zero_add]
  rfl

theorem inOutage_iff (s : State) (r : Subscriber) : s.inOutage r = true ↔ cutOff s r := by
  unfold State.inOutage cutOff State.held State.feedReachable
  cases r.tapPort with
  | none => simp
  | some p =>
    cases ht : s.taps.get? p.tap with
    | none => simp [ht]
    | some x =>
      cases he : s.elements.get? x.feeding with
      | none => simp [ht, he]
      | some e => cases hs : e.state <;> simp [ht, he, hs, ElementState.reachable]

/-- R49: a need leaves what feeds each tap. -/
theorem need_feeding (s : State) (kind : QueueKind) (i j : Nat) :
    ((s.need kind i).taps.get? j).map Tap.feeding = (s.taps.get? j).map Tap.feeding := by
  unfold State.need
  split
  · rfl
  · split
    · rw [State.updTap, Table.get?_modify]
      split
      · cases s.taps.get? j <;> rfl
      · rfl
    · (repeat' split) <;> simp [State.joinTail, State.leaveQueues] <;> (try cases kind) <;> rfl

theorem cutOff_congr (htaps : ∀ j, (t.taps.get? j).map Tap.feeding = (s.taps.get? j).map Tap.feeding) (helements : t.elements = s.elements)
    (htap : r1.tapPort = r.tapPort) : cutOff t r1 ↔ cutOff s r := by
  unfold cutOff
  rw [htap, helements]
  refine exists_congr fun p => ?_
  have hp := htaps p.tap
  cases ht : t.taps.get? p.tap <;> cases hs : s.taps.get? p.tap <;> simp_all

theorem cutOff_withSub (s : State) (i : Nat) (htap : r1.tapPort = r.tapPort) : cutOff (s.withSub i r1) r1 ↔ cutOff s r :=
  cutOff_congr (fun _ => rfl) rfl htap

theorem cutOff_changed (s : State) (i : Nat) (htap : r1.tapPort = r.tapPort) : cutOff (changedByThePart s i r1) r1 ↔ cutOff s r := by
  refine cutOff_congr (fun j => ?_) (by simp [changedByThePart, State.withSub]) htap
  unfold changedByThePart State.needFor
  cases r1.tapPort with
  | none => rfl
  | some p => exact need_feeding (s.withSub i r1) .urgent p.tap j

/-! ## Outage episodes (R125, R126) -/

theorem restorable_credited (r : Subscriber) (e : Episode) :
    (credited r e).restorable = true ↔ r.state = .lapsed ∧ hasCents (credited r e) = true := by
  cases hp : r.purse <;> simp [credited, hp, Subscriber.restorable, hasCents]

theorem credited_tapPort (r : Subscriber) (e : Episode) : (credited r e).tapPort = r.tapPort := by
  unfold credited
  split <;> rfl

/-- R126: a qualified episode's credit, with the restore of a LAPSED PREPAID record. -/
theorem State.Keeping.grant (h : s.Keeping i r) (e : Episode) : s.grant i e false =
    if r.state = .lapsed ∧ hasCents (credited r e) = true then changedByThePart s i { credited r e with state := .active, changed := true }
    else s.withSub i (credited r e) := by
  have hcredit : s.grant i e false = if (credited r e).restorable = true then (s.withSub i (credited r e)).automaticChange i (credited r e) .active
      else s.withSub i (credited r e) := by
    simp only [State.grant, h.get, h.updSub, credited_eq, Bool.not_false, and_true]
  rw [hcredit, (h.withSub (credited r e)).automaticChange, withSub_changedByThePart]
  exact if_congr (restorable_credited r e) rfl rfl

/-- R126: an episode that ends. -/
theorem State.Keeping.endEpisode (h : s.Keeping i r) (e : Episode) : s.endEpisode i e false = episodeOver s i r e := by
  unfold State.endEpisode episodeOver
  by_cases hshort : e.minutes < s.billing.threshold
  · rw [if_neg hshort.not_ge, if_pos hshort, h.updSub]
  · rw [if_pos (Nat.not_lt.mp hshort), if_neg hshort, h.grant]
    split
    · rw [(h.changed _).updSub, changedByThePart_withSub _ _ _ _ (by rfl)]
    · rw [(h.withSub _).updSub, withSub_withSub]

/-- R125: the outage check of one charged minute. -/
theorem State.Keeping.outageCheck (h : s.Keeping i r) (rate : Nat) :
    (cutOff s r → ∀ e, e = r.episode.getD ⟨0, 0, 0⟩ → s.outageCheck i rate =
      s.withSub i { r with episode := some ⟨min (e.minutes + 1) 65535, e.pendingCm + rate, e.pendingMin + 1⟩ }) ∧
    (¬cutOff s r → r.episode = none → s.outageCheck i rate = s) ∧
    (¬cutOff s r → ∀ e, r.episode = some e → s.outageCheck i rate = episodeOver s i r e) := by
  have hcheck : s.outageCheck i rate = if s.inOutage r then
        s.withSub i { r with episode := some ((r.episode.getD ⟨0, 0, 0⟩).extended rate) }
      else match r.episode with
        | none => s
        | some e => s.endEpisode i e false := by
    simp only [State.outageCheck, h.get, h.updSub] <;> rfl
  rw [hcheck]
  refine ⟨?_, fun hcut he => ?_, fun hcut e he => ?_⟩
  · rintro hcut _ rfl
    rw [if_pos ((inOutage_iff s r).mpr hcut)]
    rfl
  · rw [if_neg (mt (inOutage_iff s r).mp hcut), he]
  · rw [if_neg (mt (inOutage_iff s r).mp hcut), he, ← h.endEpisode]

/-! ## The minute's work (R123, R124) -/

/-- R124: the state in which an ACTIVE record has been charged. -/
def State.chargedIn (s : State) (i : Nat) (r : Subscriber) : State :=
  let r1 := r.charged (s.rateSum r)
  if r1.purse.spent then changedByThePart s i { r1 with state := .lapsed, changed := true } else s.withSub i r1

/-- The record that a charged minute leaves. -/
def State.chargedRecord (s : State) (r : Subscriber) : Subscriber :=
  let r1 := r.charged (s.rateSum r)
  if r1.purse.spent then { r1 with state := .lapsed, changed := true } else r1

theorem charged_tapPort (r : Subscriber) (rate : Nat) : (r.charged rate).tapPort = r.tapPort ∧ (r.charged rate).episode = r.episode := by
  unfold Subscriber.charged
  split <;> exact ⟨rfl, rfl⟩

theorem chargedRecord_keeps (s : State) (r : Subscriber) : (s.chargedRecord r).tapPort = r.tapPort ∧ (s.chargedRecord r).episode = r.episode := by
  unfold State.chargedRecord
  dsimp only
  split <;> exact charged_tapPort r _

theorem State.Keeping.chargedIn (h : s.Keeping i r) : (s.chargedIn i r).Keeping i (s.chargedRecord r) ∧
    (cutOff (s.chargedIn i r) (s.chargedRecord r) ↔ cutOff s r) := by
  unfold State.chargedIn State.chargedRecord
  dsimp only
  split
  · exact ⟨h.changed _, cutOff_changed s i (charged_tapPort r _).1⟩
  · exact ⟨h.withSub _, cutOff_withSub s i (charged_tapPort r _).1⟩

theorem State.Keeping.meterRecord_active (h : s.Keeping i r) (hs : r.state = .active) :
    s.meterRecord i r = (s.chargedIn i r).outageCheck i (s.rateSum r) := by
  simp only [State.meterRecord, hs, State.chargedIn]
  rw [h.updSub]
  split
  · rw [(h.withSub _).automaticChange, withSub_changedByThePart]
  · rfl

/-- R124: the charge of one minute, by purse. -/
theorem chargedIn_eq {rate : Nat} {s1 : State} (hrate : s.rateSum r = rate) (h :
    (∃ owed ceiling, r.purse = .account owed ceiling ∧
      r1 = { r with chargedMin := r.chargedMin + 1, chargeAcc := r.chargeAcc + rate } ∧ s1 = s.withSub i r1) ∨
    (∃ balance draw, r.purse = .prepaid balance ∧ draw = (r.chargeAcc + rate) / 43200 ∧
      ((draw < balance ∧ s1 = s.withSub i r1 ∧ r1 = { r with
          chargedMin := r.chargedMin + 1, chargeAcc := (r.chargeAcc + rate) % 43200, drawn := r.drawn + draw
          purse := .prepaid (balance - draw) }) ∨
       (balance ≤ draw ∧ s1 = changedByThePart s i r1 ∧ r1 = { r with
          chargedMin := r.chargedMin + 1, chargeAcc := (r.chargeAcc + rate) % 43200, drawn := r.drawn + draw
          purse := .prepaid 0, state := .lapsed, changed := true })))) : s.chargedIn i r = s1 ∧ s.chargedRecord r = r1 := by
  unfold State.chargedIn State.chargedRecord
  rw [hrate]
  obtain ⟨owed, ceiling, hp, rfl, rfl⟩ | ⟨balance, draw, hp, rfl, ⟨hlt, rfl, rfl⟩ | ⟨hle, rfl, rfl⟩⟩ := h
  · simp [Subscriber.charged, hp, Purse.spent]
  · have hleft : balance - (r.chargeAcc + rate) / 43200 ≠ 0 := by omega
    simp [Subscriber.charged, hp, Purse.spent, hleft]
  · have hleft : balance - (r.chargeAcc + rate) / 43200 = 0 := by omega
    simp [Subscriber.charged, hp, Purse.spent, hleft]

/-- R123 to R126: the minute's work of a metering visit. -/
theorem visit_minuteDone (htiers : s.tiers.length = 16) (hwf : s.subs.wf = true) : minuteDone s (s.visit i false) i := by
  refine ⟨fun hnone => by simp [State.visit, hnone], fun r hget => ?_⟩
  have h : s.Keeping i r := ⟨hwf, hget⟩
  have hidle (hne : r.state ≠ .active) (hopen : r.state ≠ .closed) : s.meterRecord i r = match r.episode with
      | none => s
      | some e => s.endEpisode i e false := by
    cases hs : r.state <;> simp_all [State.meterRecord] <;> rfl
  have hvisit : s.visit i false = s.meterRecord i r := by simp [State.visit, hget]
  rw [hvisit]
  refine ⟨fun hs => by simp [State.meterRecord, hs], fun hne hopen he => ?_, fun hne hopen e he => ?_, ?_⟩
  · rw [hidle hne hopen, he]
  · rw [hidle hne hopen, he, ← h.endEpisode]
  · rintro hs _ r1 s1 rfl hcharge
    obtain ⟨rfl, rfl⟩ := chargedIn_eq (rateSum_eq htiers r) hcharge
    obtain ⟨hkept, hcut⟩ := h.chargedIn
    rw [h.meterRecord_active hs, ← rateSum_eq htiers, ← hcut, ← (chargedRecord_keeps s r).2]
    exact hkept.outageCheck _

/-! ## The end of a pass (R114) -/

theorem TimeBase.withPending_none {c : TimeBase} (h : c.pending = none) : { c with pending := none } = c := by
  cases c
  cases h
  rfl

theorem endPass_metering {p : Pass} (hp : p.close = none) : s.endPass p = passOver s := by
  simp only [State.endPass, hp, passOver]
  cases hc : s.clock.pending with
  | none => simp [TimeBase.withPending_none hc]
  | some b => rfl

/-- R122: a visit of a pass. -/
theorem exec_meteringVisit {p : Pass} (hp : s.billing.pass = some p) : exec .meteringVisit s =
    if p.next < 2047 then .next { s.visit p.next p.close.isSome with billing := { s.billing with pass := some { p with next := p.next + 1 } } }
    else .next ((s.visit p.next p.close.isSome).endPass p) := by
  simp only [exec, execMeteringVisit, hp, State.visit_frame]

/-- Settles O51. -/
theorem meteringVisitChargesOneMinute : Obligations.MeteringVisitChargesOneMinute := by
  refine ⟨fun s hp => by simp [exec, execMeteringVisit, hp], fun s p hp hclose htiers hwf => ?_⟩
  refine ⟨s.visit p.next false, visit_minuteDone htiers hwf, fun hlow => ?_, fun hend => ?_⟩
  · rw [exec_meteringVisit hp, if_pos hlow, hclose]
    rfl
  · rw [exec_meteringVisit hp, if_neg hend.not_gt, endPass_metering hclose, hclose]
    rfl

end Sys2Proof.Machine
end

section
/-! PROOFS. The close of a period (O52): one record's figures and its lapse, its open episode, and the end of a close pass. -/

namespace Sys2Proof.Machine

variable {s : State} {i : Nat} {r r1 : Subscriber}

/-! ## The figures of one record (R129 to R131) -/

/-- R129, R130: the record whose accumulators a close has divided, with its net owed. -/
def Subscriber.netted (r : Subscriber) : Subscriber := r.carriedOver.owing (r.netOf r.tierCents r.creditCents)

/-- R131: the figures of a close. -/
def Subscriber.figuresAt (r : Subscriber) (period : Nat) : Figures :=
  ⟨period, r.tierCents, r.creditCents, r.netOf r.tierCents r.creditCents, false⟩

theorem netted_withStatement (r : Subscriber) (period : Nat) : r.netted.withStatement (r.figuresAt period) = closedAt r period := by
  unfold closedAt
  cases hp : r.purse <;>
    simp only [withStatement_eq, Subscriber.figuresAt, Subscriber.netted, Subscriber.carriedOver, Subscriber.owing,
      Subscriber.tierCents, Subscriber.creditCents, netOf_eq, hp] <;>
    rfl

theorem netted_keeps (r : Subscriber) : r.netted.tapPort = r.tapPort ∧ r.netted.state = r.state := by
  unfold Subscriber.netted Subscriber.carriedOver Subscriber.owing
  cases hp : r.purse <;> simp [hp]

theorem closedAt_purse (r : Subscriber) (period : Nat) : (closedAt r period).purse = r.netted.purse := by
  rw [← netted_withStatement]
  rfl

theorem overCeiling_netted (r : Subscriber) (period : Nat) : r.netted.overCeiling = true ↔
    ∃ owed ceiling, r.state = .active ∧ (closedAt r period).purse = .account owed ceiling ∧ (ceiling : Int) < owed := by
  rw [closedAt_purse]
  unfold Subscriber.overCeiling
  cases hp : r.netted.purse <;> simp [(netted_keeps r).2]

/-- R130, R131: the figures, the lapse and the statement of a close. -/
theorem State.Keeping.closeFigures (h : s.Keeping i r) : s.closeFigures i = if r.netted.overCeiling = true then
    changedByThePart s i { closedAt r s.billing.period with state := .lapsed, changed := true }
    else s.withSub i (closedAt r s.billing.period) := by
  have hfigures : s.closeFigures i = (if r.netted.overCeiling = true then (s.withSub i r.netted).automaticChange i r.netted .lapsed
      else s.withSub i r.netted).updSub i fun x => x.withStatement (r.figuresAt s.billing.period) := by
    simp only [State.closeFigures, h.get, h.updSub]
    rfl
  rw [hfigures, ← netted_withStatement]
  split
  · rw [(h.withSub _).automaticChange, withSub_changedByThePart, (h.changed _).updSub, changedByThePart_withSub _ _ _ _ (by rfl)]
    rfl
  · rw [(h.withSub _).updSub, withSub_withSub]

/-! ## One record's close (R128) -/

theorem State.Keeping.closeRecord (h : s.Keeping i r) (hopen : r.state ≠ .closed) :
    s.closeRecord i = (s.payOpenEpisode i r).closeFigures i := by
  have hcloses : r.state.closes = true := by cases hs : r.state <;> simp_all [SubState.closes]
  simp only [State.closeRecord, h.get, hcloses, if_true]

/-- R129: a record whose open episode a close has looked at, and the state before it is written: an episode that qualifies has paid, and a LAPSED PREPAID record
that it gave a cent has been restored. -/
def paidAt (s : State) (i : Nat) (r r1 : Subscriber) (s1 : State) : Prop :=
  (r.episode = none ∧ r1 = r ∧ s1 = s) ∨
  (∃ e, r.episode = some e ∧ e.minutes < s.billing.threshold ∧ r1 = r ∧ s1 = s) ∨
  (∃ e, r.episode = some e ∧ s.billing.threshold ≤ e.minutes ∧
    (((r.state ≠ .lapsed ∨ hasCents (credited r e) = false) ∧
        r1 = { credited r e with episode := some ⟨e.minutes, 0, 0⟩ } ∧ s1 = s) ∨
     (r.state = .lapsed ∧ hasCents (credited r e) = true ∧
        r1 = { credited r e with state := .active, changed := true, episode := some ⟨e.minutes, 0, 0⟩ } ∧
        s1 = changedByThePart s i r1)))

theorem State.Keeping.payOpenEpisode (h : s.Keeping i r) {s1 : State} (hpaid : paidAt s i r r1 s1) :
    s.payOpenEpisode i r = s1.withSub i r1 := by
  obtain ⟨he, rfl, rfl⟩ | ⟨e, he, hshort, rfl, rfl⟩ | ⟨e, he, hlong, ⟨hstays, rfl, rfl⟩ | ⟨hl, hc, rfl, rfl⟩⟩ := hpaid
  · simp [State.payOpenEpisode, he, h.withSub_self]
  · simp [State.payOpenEpisode, he, hshort.not_ge, h.withSub_self]
  · have hkeeps : ¬(r.state = .lapsed ∧ hasCents (credited r e) = true) := by
      rintro ⟨hl, hc⟩
      cases hstays <;> simp_all
    simp only [State.payOpenEpisode, he, if_pos hlong, h.grant, if_neg hkeeps]
    rw [(h.withSub _).updSub, withSub_withSub]
  · simp only [State.payOpenEpisode, he, if_pos hlong, h.grant, hl, hc, and_self, if_true]
    rw [(h.changed _).updSub, changedByThePart_withSub _ _ _ _ (by rfl)]
    exact ((h.changed _).withSub_self).symm

theorem State.Keeping.paid (h : s.Keeping i r) {s1 : State} (hpaid : paidAt s i r r1 s1) :
    (s1.withSub i r1).Keeping i r1 ∧ s1.billing = s.billing := by
  obtain ⟨-, -, rfl⟩ | ⟨e, -, -, -, rfl⟩ | ⟨e, -, -, ⟨-, -, rfl⟩ | ⟨-, -, -, rfl⟩⟩ := hpaid
  · exact ⟨h.withSub r1, rfl⟩
  · exact ⟨h.withSub r1, rfl⟩
  · exact ⟨h.withSub r1, rfl⟩
  · exact ⟨(h.changed r1).withSub r1, by simp [changedByThePart, State.withSub]⟩

/-- R128 to R131: what closing the period of an index does. -/
theorem periodDone_closeRecord (hwf : s.subs.wf = true) (i : Nat) : periodDone s (s.closeRecord i) i := by
  refine ⟨fun hnone => by simp [State.closeRecord, hnone], fun r hget => ?_⟩
  have h : s.Keeping i r := ⟨hwf, hget⟩
  refine ⟨fun hs => by simp [State.closeRecord, hget, hs, SubState.closes], fun hopen r1 s1 hpaid => ?_⟩
  obtain ⟨hkept, hbilling⟩ := h.paid hpaid
  have hclosed : s.closeRecord i = if r1.netted.overCeiling = true then
      changedByThePart s1 i { closedAt r1 s.billing.period with state := .lapsed, changed := true }
      else s1.withSub i (closedAt r1 s.billing.period) := by
    rw [h.closeRecord hopen, h.payOpenEpisode hpaid, hkept.closeFigures, withSub_changedByThePart, withSub_withSub]
    exact if_congr Iff.rfl (by rw [← hbilling]; rfl) (by rw [← hbilling]; rfl)
  rw [hclosed, ← overCeiling_netted]
  exact ⟨fun hunder => if_neg hunder, fun hover => if_pos hover⟩

/-! ## The close pass (R122, R132) -/

theorem visit_closing (s : State) (i : Nat) : s.visit i true = (s.visit i false).closeRecord i := by
  cases hget : s.subs.get? i <;> simp [State.visit, State.closeRecord, hget]

theorem swapped_eq (x : Tier) : x.swapped = ⟨x.staged.getD x.rate, none, x.label⟩ := by
  unfold Tier.swapped
  cases x with
  | mk rate staged label => cases staged <;> rfl

theorem endPass_closing {p : Pass} {m : Nat} (hp : p.close = some m) : s.endPass p = passOver { s with
    tiers := s.tiers.map fun (x : Tier) => ⟨x.staged.getD x.rate, none, x.label⟩
    billing := { s.billing with
      start := some m, period := if s.billing.period = 65535 then 1 else s.billing.period + 1, nextClose := some (m + s.billing.length) }
    alarms := s.alarms.raise .periodClosed 0 .occurrence ⟨s.clock.minute, s.clock.second⟩ } := by
  have hswapped : Tier.swapped = fun (x : Tier) => ⟨x.staged.getD x.rate, none, x.label⟩ := funext swapped_eq
  have hend : s.endPass p = (s.endClose m).endPass { p with close := none } := by simp only [State.endPass, hp]
  rw [hend, endPass_metering (by rfl), State.endClose, hswapped]
  rfl

/-- Settles O52. -/
theorem closePassClosesThePeriod : Obligations.ClosePassClosesThePeriod := by
  intro s p m hp hclose htiers hwf
  have hkeys : (s.visit p.next false).subs.wf = true := (Table.wf_congr (by simp)).trans hwf
  refine ⟨s.visit p.next false, s.visit p.next true, visit_minuteDone htiers hwf, ?_, fun hlow => ?_, fun hend => ?_⟩
  · rw [visit_closing]
    exact periodDone_closeRecord hkeys p.next
  · rw [exec_meteringVisit hp, if_pos hlow, hclose]
    rfl
  · rw [exec_meteringVisit hp, if_neg hend.not_gt, hclose, Option.isSome_some, endPass_closing hclose]
    simp only [State.visit_frame]

end Sys2Proof.Machine
end

section
/-! PROOFS. Pay events: the requests (O53), refunds by the part, and the end walk (O56). -/

namespace Sys2Proof.Machine

variable {s : State} {body : List Byte} {i id : Nat} {r r1 : Subscriber} {e : EventRec}

/-! ## Requests (R143, R151, R154, R155) -/

theorem State.windowTaken_eq_false {slot opens closes : Nat} (hfree : ∀ j e, (j, e) ∈ s.events → e.slot = slot →
    e.state = .scheduled ∨ e.state = .opened → e.closeMinute ≤ opens ∨ closes ≤ e.openMinute) : s.windowTaken slot opens closes = false := by
  rw [State.windowTaken, List.any_eq_false]
  rintro ⟨j, e⟩ he htaken
  simp only [EventRec.overlaps, Bool.and_eq_true, beq_iff_eq, Bool.or_eq_true, decide_eq_true_eq] at htaken
  obtain ⟨⟨hslot, hlive⟩, hopen, hclose⟩ := htaken
  obtain h | h := hfree j e he hslot hlive <;> omega

theorem eventBody_eq (e : EventRec) : eventBody e = eventOctets e := by
  unfold eventBody eventOctets
  cases hs : e.state <;> cases hw : e.walk <;> simp [wopt, wflag, EventState.code] <;> rfl

/-- Settles O53. -/
theorem eventRequests : Obligations.EventRequests := by
  refine ⟨?_, fun s body e hl hb he => ⟨fun hover => ?_, fun hlive => ?_, ?_⟩, fun s body id e hl hb hwf hid he hlow => ?_, fun s body hl hb hone => ?_⟩
  · rintro s body id slot opens closes price cutoff x hl hb rfl rfl rfl rfl rfl rfl hid hslot hwindow hday hnow hprice hcutoff hnew hroom hx hstate hpay hfree
    have hrange : eventInRange (u16 body 0) (eventAt body) s.clock.minute = true := by
      simp [eventInRange, eventAt, hid, hslot, hwindow, hday, hnow, hprice, hcutoff]
    have hpays : s.slotPays (eventAt body).slot = true := by simp [State.slotPays, eventAt, hx, hstate, hpay]
    have hwindows : s.windowTaken (eventAt body).slot (eventAt body).openMinute (eventAt body).closeMinute = false := State.windowTaken_eq_false hfree
    simp only [exec, execDefineEvent]
    rw [request_owner_both hl hb]
    simp only [defineEventOwner, hrange, hnew, hpays, hwindows, hroom.not_ge, Bool.not_true, Bool.false_eq_true, Option.isSome_none, if_false]
    rfl
  · simp only [exec, execRemoveEvent]
    rw [request_owner_both hl hb]
    have hunused : ¬(e.state = .scheduled ∨ e.state = .opened) := by rcases hover with h | ⟨h, -⟩ <;> simp [h]
    have hwalked : ¬(e.state = .ended ∧ e.walk.isSome = true) := by rcases hover with h | ⟨h, hw⟩ <;> simp_all
    simp only [removeEventOwner, he, if_neg hunused, if_neg hwalked]
    rfl
  · simp only [exec, execRemoveEvent]
    rw [request_owner_both hl hb]
    rcases hlive with h | h | ⟨h, hw⟩
    · simp [removeEventOwner, he, h, State.refuse, refusal]
    · simp [removeEventOwner, he, h, State.refuse, refusal]
    · simp [removeEventOwner, he, h, hw, State.refuse, refusal]
  · simp only [exec, execReadEvent]
    rw [request_owner_both hl hb, readEventOwner, he, ← eventBody_eq] <;> rfl
  · simp only [exec, execNextEvent]
    rw [request_owner_both hl hb, nextEventOwner, Table.above_eq hwf hid he hlow, ← eventBody_eq] <;> rfl
  · simp only [exec, execSetEventParameters]
    rw [request_owner_both hl hb, if_neg (by omega)]
    rfl

/-! ## Refunds by the part (R146) -/

theorem givenBack_tapPort (r : Subscriber) (price : Nat) : (givenBack r price).tapPort = r.tapPort := by
  unfold givenBack
  (repeat' split) <;> rfl

theorem restorable_givenBack (r : Subscriber) (price : Nat) :
    (givenBack r price).restorable = true ↔ r.state = .lapsed ∧ hasCents (givenBack r price) = true := by
  unfold Subscriber.restorable hasCents givenBack
  by_cases hzero : price = 0
  · cases hp : r.purse <;> simp [hzero, hp]
  · cases hp : r.purse <;> simp [hzero]

/-- R146: a refund by the part of a record that it finds. -/
theorem State.Keeping.refund_automatic (h : s.Keeping i r) (price : Nat) : s.refund i price .automatic =
    if price ≠ 0 ∧ r.state = .lapsed ∧ hasCents (givenBack r price) = true then
      changedByThePart s i { givenBack r price with state := .active, changed := true }
    else s.withSub i (givenBack r price) := by
  by_cases hzero : price = 0
  · simp [State.refund, h.get, hzero, givenBack_eq, h.withSub_self]
  · have hback : r.refunded price = givenBack r price := by rw [givenBack_eq, if_neg hzero]
    have hrefund : s.refund i price .automatic = if (givenBack r price).restorable = true then
        (s.withSub i (givenBack r price)).automaticChange i (givenBack r price) .active else s.withSub i (givenBack r price) := by
      simp only [State.refund, h.get, if_neg hzero, h.updSub, hback]
    rw [hrefund, (h.withSub _).automaticChange, withSub_changedByThePart]
    exact if_congr (by simp [restorable_givenBack, hzero]) rfl rfl

theorem State.walkVisit_none {price : Nat} {due : Bool} (h : s.subs.get? i = none) : s.walkVisit id price i due = s := by
  simp [State.walkVisit, h]

theorem State.walkVisit_unnamed {price : Nat} {due : Bool} (hget : s.subs.get? i = some r) (hid : id ∉ r.purchases) :
    s.walkVisit id price i due = s := by
  simp [State.walkVisit, hget, hid]

/-- R145: a visit that takes the event from the purchase list without a refund. -/
theorem State.Keeping.walkVisit_taken (h : s.Keeping i r) (hid : id ∈ r.purchases) (price : Nat) :
    s.walkVisit id price i false = s.withSub i { r with purchases := r.purchases.filter (· != id) } := by
  simp [State.walkVisit, h.get, hid, h.updSub]

/-- R145, R150: a visit that takes the event from the purchase list and returns its price. -/
theorem State.Keeping.walkVisit_refund (h : s.Keeping i r) (hid : id ∈ r.purchases) (price : Nat) :
    s.walkVisit id price i true = refundedFor s id price i := by
  have hvisit : s.walkVisit id price i true = (s.withSub i { r with purchases := r.purchases.filter (· != id) }).refund i price .automatic := by
    simp [State.walkVisit, h.get, hid, h.updSub]
  rw [hvisit, (h.withSub _).refund_automatic, withSub_changedByThePart, withSub_withSub]
  simp only [refundedFor, h.get]

/-! ## The end walk (R145) -/

/-- R145: the walk after a visit. -/
theorem exec_endWalkVisit {w : EndWalk} (he : s.events.get? id = some e) (hw : e.walk = some w) :
    exec (.endWalkVisit id) s = .next (walkMoved (s.walkVisit id e.price w.next w.refundDue) id w (s.names w.next id)) := by
  simp only [exec, execEndWalkVisit, he, hw, walkMoved]
  split
  · rfl
  · cases w.refundDue <;> rfl

theorem State.names_eq (hget : s.subs.get? i = some r) : s.names i id = decide (id ∈ r.purchases) := by
  simp [State.names, hget]

theorem refundedFor_kept {price : Nat} (hget : s.subs.get? i = some r) (hkept : r.state ≠ .lapsed ∨ ∃ owed ceiling, r.purse = .account owed ceiling) :
    refundedFor s id price i = s.withSub i (givenBack { r with purchases := r.purchases.filter (· != id) } price) := by
  have hstays : ¬(price ≠ 0 ∧ r.state = .lapsed ∧ hasCents (givenBack { r with purchases := r.purchases.filter (· != id) } price) = true) := by
    rintro ⟨hprice, hl, hc⟩
    obtain h | ⟨owed, ceiling, hp⟩ := hkept
    · exact h hl
    · simp [givenBack, hp, hprice, hasCents] at hc
  simp only [refundedFor, hget, if_neg hstays]

theorem refundedFor_restored {price balance : Nat} (hget : s.subs.get? i = some r) (hprice : price ≠ 0) (hl : r.state = .lapsed)
    (hp : r.purse = .prepaid balance) : refundedFor s id price i =
      changedByThePart s i { givenBack { r with purchases := r.purchases.filter (· != id) } price with state := .active, changed := true } := by
  have hc : hasCents (givenBack { r with purchases := r.purchases.filter (· != id) } price) = true := by
    simp [givenBack, hp, hprice, hasCents]
    omega
  simp only [refundedFor, hget, if_pos (And.intro hprice (And.intro hl hc))]

/-- Settles O56. -/
theorem endWalkVisitsARecord : Obligations.EndWalkVisitsARecord := by
  intro s id e w he hw hwf _
  rw [exec_endWalkVisit he hw]
  refine ⟨fun hnone => ?_, ?_⟩
  · rw [State.walkVisit_none hnone]
    simp [State.names, hnone]
  rintro r r' hget rfl
  have h : s.Keeping w.next r := ⟨hwf, hget⟩
  rw [State.names_eq hget]
  refine ⟨fun hid => ?_, fun hid hfree => ?_, fun hid hdue hprice owed ceiling hp => ?_, ?_⟩
  · rw [State.walkVisit_unnamed hget hid, decide_eq_false hid]
  · rw [decide_eq_true hid]
    cases hdue : w.refundDue with
    | false => rw [h.walkVisit_taken hid]
    | true =>
      have hzero : e.price = 0 := hfree.resolve_left (by simp [hdue])
      rw [h.walkVisit_refund hid, hzero]
      simp [refundedFor, hget, givenBack]
  · rw [hdue, h.walkVisit_refund hid, decide_eq_true hid, refundedFor_kept hget (.inr ⟨owed, ceiling, hp⟩)]
    simp only [givenBack, if_neg hprice, hp]
  · rintro hid hdue hprice balance hp _ rfl
    rw [hdue, h.walkVisit_refund hid, decide_eq_true hid]
    refine ⟨fun hstate => ?_, fun hl => ⟨_, rfl, ?_⟩⟩
    · rw [refundedFor_kept hget (.inl hstate)]
      simp only [givenBack, if_neg hprice, hp]
    · rw [refundedFor_restored hget hprice hl hp]
      simp only [givenBack, if_neg hprice, hp]
      rfl

end Sys2Proof.Machine
end

section
/-! PROOFS. Purchases, their withdrawal, and an event cancelled (O54). -/

namespace Sys2Proof.Machine

variable {s u : State} {body : List Byte} {i id : Nat} {r r1 : Subscriber} {e : EventRec}

/-! ## Purchases (R147, R148) -/

/-- R147: a request that its tests let through, with the record that it leaves. -/
theorem bought_eq {charge : Nat} {r' : Subscriber} (h :
    (u8 body 6 = 0 ∧ r.state = .active ∧ charge = e.price ∧
        (e.state = .scheduled ∨ (e.state = .opened ∧ s.clock.minute < e.openMinute + e.cutoff)) ∧
        ((∃ balance, r.purse = .prepaid balance ∧ e.price < balance ∧
            r' = { r with purchases := r.purchases ++ [id], purse := .prepaid (balance - e.price)
                          eventCents := min (r.eventCents + e.price) 99999999 }) ∨
         (∃ owed ceiling, r.purse = .account owed ceiling ∧ owed + r.eventCents + e.price ≤ ceiling ∧
            r' = { r with purchases := r.purchases ++ [id], eventCents := min (r.eventCents + e.price) 99999999 }))) ∨
      (u8 body 6 ≠ 0 ∧ s.mode = .loading ∧ r.state ≠ .closed ∧ charge = 0 ∧ (e.state = .scheduled ∨ e.state = .opened) ∧
        r' = { r with purchases := r.purchases ++ [id] })) :
    ¬(flagAt body 6 = true ∧ s.mode = .live) ∧ r.cannotBuy (flagAt body 6) = false ∧ e.shut s.clock.minute (flagAt body 6) = false ∧
      ¬((!flagAt body 6) = true ∧ (!r.affords e.price) = true) ∧ r.bought id e.price (flagAt body 6) = r' ∧
      (if flagAt body 6 then 0 else e.price) = charge := by
  obtain ⟨hflag, hstate, rfl, hevent, hmoney⟩ | ⟨hflag, hm, hstate, rfl, hevent, rfl⟩ := h
  · have hbuys : flagAt body 6 = false := by simp [flagAt, hflag]
    have hopen : e.shut s.clock.minute false = false := by
      obtain h | ⟨h, hcut⟩ := hevent
      · simp [EventRec.shut, h]
      · simp [EventRec.shut, h, hcut]
    rw [hbuys]
    obtain ⟨balance, hp, hlt, rfl⟩ | ⟨owed, ceiling, hp, hle, rfl⟩ := hmoney
    · simp [Subscriber.cannotBuy, hstate, hopen, Subscriber.affords, hp, hlt, Subscriber.bought, clampCents]
    · simp [Subscriber.cannotBuy, hstate, hopen, Subscriber.affords, hp, hle, Subscriber.bought, clampCents]
  · have hrestores : flagAt body 6 = true := by simp [flagAt, hflag]
    rw [hrestores]
    obtain h | h := hevent <;> simp [Subscriber.cannotBuy, hstate, EventRec.shut, h, Subscriber.bought, hm]

theorem purchase_eq {account : Nat} (h : s.holds account i r) (restore : Bool) : s.purchase i id r e restore =
    let u : State := { s.withSub i (r.bought id e.price restore) with events := s.events.modify id fun e => { e with count := e.count + 1 } }
    (if e.state = .opened then u.needFor r.tapPort else u).served
      (w32 (if restore then 0 else e.price) ++ wi32 (r.bought id e.price restore).purse.figure ++ w16 (e.count + 1)) := by
  simp only [State.purchase, State.updSub_holds h]
  rfl

/-! ## Withdrawals (R149) -/

/-- R146: a refund by a request of a record that it finds. -/
theorem State.Keeping.refund_request (h : s.Keeping i r) {price : Nat} (hprice : price ≠ 0) : s.refund i price .request =
    if r.state = .lapsed ∧ hasCents (givenBack r price) = true then
      (s.withSub i { givenBack r price with state := .active }).needFor r.tapPort
    else s.withSub i (givenBack r price) := by
  have hback : r.refunded price = givenBack r price := by rw [givenBack_eq, if_neg hprice]
  have hrefund : s.refund i price .request = if (givenBack r price).restorable = true then
      (s.withSub i (givenBack r price)).requestChange i (givenBack r price) .active else s.withSub i (givenBack r price) := by
    simp only [State.refund, h.get, if_neg hprice, h.updSub, hback]
  rw [hrefund]
  by_cases hrestored : r.state = .lapsed ∧ hasCents (givenBack r price) = true
  · have hstate : (givenBack r price).state ≠ .active := by
      have : (givenBack r price).state = .lapsed := by
        have := (restorable_givenBack r price).mpr hrestored
        cases hp : (givenBack r price).purse <;> simp_all [Subscriber.restorable]
      simp [this]
    rw [if_pos ((restorable_givenBack r price).mpr hrestored), if_pos hrestored, requestChange_of_ne hstate, (h.withSub _).updSub, withSub_withSub]
    exact congrArg (State.needFor _) (givenBack_tapPort r price)
  · rw [if_neg (mt (restorable_givenBack r price).mp hrestored), if_neg hrestored]

/-- The states before and after a withdrawal's refund. -/
def State.withdrawn (s : State) (i id : Nat) (r1 : Subscriber) : State :=
  { s.withSub i r1 with events := s.events.modify id fun e => { e with count := e.count - 1 } }

theorem State.Keeping.withdrawn (h : s.Keeping i r) (r1 : Subscriber) : (s.withdrawn i id r1).Keeping i r1 := ⟨(h.withSub r1).wf, (h.withSub r1).get⟩

theorem withdrawn_withSub (s : State) (i id : Nat) (r r1 : Subscriber) : (s.withdrawn i id r).withSub i r1 = s.withdrawn i id r1 :=
  congrArg (fun u : State => { u with events := s.events.modify id fun e => { e with count := e.count - 1 } }) (withSub_withSub s i r r1)

/-- R149: the refund of a withdrawal, with the amount that it reports. -/
theorem withdrawn_refund {r' : Subscriber} {price back : Nat} (h : s.Keeping i r) (hprice : price ≠ 0) (hback :
    (∃ balance, r.purse = .prepaid balance ∧ back = min (balance + price) 99999999 - balance ∧
        r' = { r with
          purchases := r.purchases.filter (· != id), purse := .prepaid (min (balance + price) 99999999)
          refundCents := min (r.refundCents + back) 99999999, state := if r.state = .lapsed then .active else r.state }) ∨
      (∃ owed ceiling, r.purse = .account owed ceiling ∧ back = price ∧
        r' = { r with purchases := r.purchases.filter (· != id), refundCents := min (r.refundCents + price) 99999999 })) :
    (s.withdrawn i id { r with purchases := r.purchases.filter (· != id) }).refund i price .request =
        (if r'.state = r.state then s.withdrawn i id r' else (s.withdrawn i id r').needFor r.tapPort) ∧
      { r with purchases := r.purchases.filter (· != id) }.refundable price = back := by
  rw [(h.withdrawn _).refund_request hprice, withdrawn_withSub, withdrawn_withSub]
  obtain ⟨balance, hp, rfl, rfl⟩ | ⟨owed, ceiling, hp, rfl, rfl⟩ := hback
  · have hcents : 0 < min (balance + price) 99999999 := by omega
    by_cases hl : r.state = .lapsed
    · simp [hl, givenBack, hprice, hp, hasCents, hcents, Subscriber.refundable, clampCents]
    · simp [hl, givenBack, hprice, hp, Subscriber.refundable, clampCents]
  · simp [givenBack, hprice, hp, hasCents, Subscriber.refundable]

theorem refundable_zero (r : Subscriber) : r.refundable 0 = 0 := by
  cases hp : r.purse <;> simp [Subscriber.refundable, hp, clampCents]

theorem stateCodeAt_eq (h : s.subs.get? i = some r) : s.stateCodeAt i = r.state.code := by simp [State.stateCodeAt, h]

/-- R149: a purchase that is withdrawn. -/
theorem exec_withdraw (hl : s.listening) (hb : body.length = 6) (h : s.holds (u32 body 0) i r) (hid : u16 body 4 ∈ r.purchases)
    (he : s.events.get? (u16 body 4) = some e) (hs : e.state = .scheduled) {t : State} {r0 r1 : Subscriber}
    (hr0 : r0 = { r with purchases := r.purchases.filter (· != u16 body 4) })
    (ht : (s.withdrawn i (u16 body 4) r0).refund i e.price .request = t) (hget : t.subs.get? i = some r1) :
    exec (.withdrawPurchase body) s = .next (t.replied 6 ⟨.ok, w32 (r0.refundable e.price) ++ w8 r1.state.code⟩) := by
  simp only [exec, execWithdrawPurchase]
  rw [request_owner_both hl hb, withdrawPurchaseOwner, State.withAccount_holds h]
  simp only [he, List.contains_eq_mem, hid, decide_true, Bool.not_true, Bool.false_eq_true, if_false, hs, ne_eq, not_true_eq_false,
    State.updSub_holds h, ← hr0]
  have ht' : ((s.withSub i r0).updEvent (u16 body 4) fun e => { e with count := e.count - 1 }).refund i e.price .request = t := ht
  rw [ht', stateCodeAt_eq hget]
  subst hr0
  rfl

theorem exec_withdraw_refused {status : Status} (hl : s.listening) (hb : body.length = 6) (h : s.holds (u32 body 0) i r)
    (he : s.events.get? (u16 body 4) = some e)
    (hrefused : (u16 body 4 ∈ r.purchases ∧ e.state ≠ .scheduled ∧ status = .badState) ∨
      (u16 body 4 ∉ r.purchases ∧ status = if e.settled i = true then .badState else .notFound)) :
    exec (.withdrawPurchase body) s = .next (s.replied 6 ⟨status, []⟩) := by
  simp only [exec, execWithdrawPurchase]
  rw [request_owner_both hl hb, withdrawPurchaseOwner, State.withAccount_holds h]
  obtain ⟨hid, hs, rfl⟩ | ⟨hid, rfl⟩ := hrefused
  · simp [he, hid, hs, State.refuse, refusal]
  · simp [he, hid, State.refuse, refusal]

/-! ## An event cancelled (R150) -/

theorem arrange_perm {α : Type} (k : Nat) (l : List α) : (arrange k l).Perm l := by
  induction k, l using arrange.induct with
  | case1 => exact .refl _
  | case2 => exact .refl _
  | case3 k x y rest ih =>
    have hplace : Config.freePick k % (rest.length + 2) ≤ (arrange (k + 1) (y :: rest)).length := by
      have := Nat.mod_lt (Config.freePick k) (by omega : 0 < rest.length + 2)
      rw [ih.length_eq, List.length_cons]
      omega
    exact (List.perm_insertIdx _ _ hplace).trans (ih.cons x)

/-- A refund by the part keeps the table in order and every other record. -/
theorem refundedFor_subs (hwf : s.subs.wf = true) (price : Nat) : (refundedFor s id price i).subs.wf = true ∧
    ∀ j, j ≠ i → (refundedFor s id price i).subs.get? j = s.subs.get? j := by
  have hwrite (r1 : Subscriber) : (s.withSub i r1).subs.wf = true ∧ ∀ j, j ≠ i → (s.withSub i r1).subs.get? j = s.subs.get? j :=
    ⟨Table.wf_modify hwf i fun _ => r1, fun j hj => by simp [State.withSub, Table.get?_modify, hj.symm]⟩
  unfold refundedFor
  split
  · exact ⟨hwf, fun _ _ => rfl⟩
  · dsimp only
    split
    · rw [changedByThePart]
      simp only [State.needFor_subs]
      exact hwrite _
    · exact hwrite _

theorem foldl_walkVisit {price : Nat} {order : List Nat} (hdistinct : order.Nodup) (hwf : s.subs.wf = true)
    (hnamed : ∀ i ∈ order, ∃ r, s.subs.get? i = some r ∧ id ∈ r.purchases) :
    order.foldl (fun u i => u.walkVisit id price i true) s = order.foldl (fun u i => refundedFor u id price i) s := by
  induction order generalizing s with
  | nil => rfl
  | cons i order ih =>
    obtain ⟨r, hget, hid⟩ := hnamed i List.mem_cons_self
    obtain ⟨hi, hdistinct⟩ := List.nodup_cons.mp hdistinct
    obtain ⟨hkept, hothers⟩ := refundedFor_subs (id := id) (i := i) hwf price
    rw [List.foldl_cons, List.foldl_cons, State.Keeping.walkVisit_refund ⟨hwf, hget⟩ hid]
    refine ih hdistinct hkept fun j hj => ?_
    rw [hothers j (ne_of_mem_of_not_mem hj hi)]
    exact hnamed j (List.mem_cons_of_mem _ hj)

theorem refundedFor_free (price : Nat) : (refundedFor s id price i).free = s.free := by
  unfold refundedFor changedByThePart
  split
  · rfl
  · dsimp only
    split
    · simp [State.withSub]
    · rfl

theorem foldl_refundedFor_free (price : Nat) (order : List Nat) :
    (order.foldl (fun u i => refundedFor u id price i) s).free = s.free := by
  induction order generalizing s with
  | nil => rfl
  | cons i order ih => rw [List.foldl_cons, ih, refundedFor_free]

theorem State.requestSweep_withFree (s : State) (free : Nat) (r : SweepRequest) :
    ({ s with free := free } : State).requestSweep r = { s.requestSweep r with free := free } := by
  obtain ⟨_, _, _, _, _, _, _, _, _, _, _, sweep, scopes⟩ := s
  unfold State.requestSweep State.mergeScope
  cases sweep with
  | none => rfl
  | some w => rcases scopes with _ | _ | es <;> cases r <;> dsimp only <;> (repeat' split) <;> rfl

theorem purchasers_spec (hwf : s.subs.wf = true) : (s.purchasers id).Nodup ∧
    ∀ i ∈ s.purchasers id, ∃ r, s.subs.get? i = some r ∧ id ∈ r.purchases := by
  refine ⟨?_, fun i hi => ?_⟩
  · have hsorted := (Table.wf_iff _).mp hwf
    exact (hsorted.sublist (List.filter_sublist.map Prod.fst)).imp fun h => h.ne
  · obtain ⟨⟨j, r⟩, hmem, rfl⟩ := List.mem_map.mp hi
    obtain ⟨hmem, hid⟩ := List.mem_filter.mp hmem
    exact ⟨r, (Table.get?_eq_some_iff hwf _ _).mpr hmem, by simpa using hid⟩

/-- R150: the refunds of a cancelled event, in the order that is taken. -/
theorem refundAll_eq (hwf : s.subs.wf = true) (price : Nat) : s.refundAll id price =
    { (arrange s.free (s.purchasers id)).foldl (fun u i => refundedFor u id price i) s with free := s.free + (s.purchasers id).length } := by
  obtain ⟨hdistinct, hnamed⟩ := purchasers_spec (id := id) hwf
  have horder := arrange_perm s.free (s.purchasers id)
  have hfold := foldl_walkVisit (price := price) (horder.nodup_iff.mpr hdistinct) hwf fun i hi => hnamed i (horder.mem_iff.mp hi)
  simp only [State.refundAll, hfold, foldl_refundedFor_free, horder.length_eq]

/-- Settles O54. -/
theorem purchasesAndTheirRefunds : Obligations.PurchasesAndTheirRefunds := by
  refine ⟨?_, ?_, ?_, ?_⟩
  · rintro s body i id r r' e charge hl hb hr - rfl hid he hnew hroom hserved
    obtain ⟨hlive, hbuys, hshut, hfunds, hr', hcharge⟩ := bought_eq hserved
    refine ⟨_, rfl, ?_⟩
    simp only [exec, execPurchase]
    rw [request_owner_both hl hb]
    simp only [purchaseOwner, if_neg hid, if_neg hlive, State.withAccount_holds hr, he, hbuys, hshut, List.contains_eq_mem, hnew, decide_false,
      Bool.false_eq_true, if_false, hroom.not_ge, if_neg hfunds, purchase_eq hr, hr', hcharge]
    rfl
  · rintro s body i id r r' e back hl hb hr rfl he hid hs hprice hback
    have h : s.Keeping i r := ⟨hr.1, hr.2.2⟩
    obtain ⟨hrefund, hback'⟩ := withdrawn_refund h hprice hback
    refine ⟨_, rfl, ?_⟩
    rw [exec_withdraw hl hb hr hid he hs rfl hrefund (r1 := r') ?_, hback']
    · rfl
    · have hget := (h.withdrawn (id := u16 body 4) r').get
      split <;> simpa using hget
  · rintro s body i id r e hl hb hr rfl he
    refine ⟨fun hid hs hfree => ?_, fun hid hs => ?_, fun hid w hw hi => ?_, fun hid hw => ?_⟩
    · have h : s.Keeping i r := ⟨hr.1, hr.2.2⟩
      have hkept := h.withdrawn (id := u16 body 4) { r with purchases := r.purchases.filter (· != u16 body 4) }
      have hrefund : (s.withdrawn i (u16 body 4) { r with purchases := r.purchases.filter (· != u16 body 4) }).refund i e.price .request =
          s.withdrawn i (u16 body 4) { r with purchases := r.purchases.filter (· != u16 body 4) } := by
        simp only [State.refund, hkept.get, hfree, if_true]
      rw [exec_withdraw hl hb hr hid he hs rfl hrefund hkept.get, hfree, refundable_zero]
      rfl
    · exact exec_withdraw_refused hl hb hr he (.inl ⟨hid, hs, rfl⟩)
    · exact exec_withdraw_refused hl hb hr he (.inr ⟨hid, by simp [EventRec.settled, hw, hi]⟩)
    · refine exec_withdraw_refused hl hb hr he (.inr ⟨hid, ?_⟩)
      cases hwalk : e.walk with
      | none => simp [EventRec.settled, hwalk]
      | some w => simp [EventRec.settled, hwalk, hw w hwalk]
  · rintro s body id e hl hb rfl hwf he hlive
    refine ⟨_, arrange s.free (s.purchasers (u16 body 0)), _, _, rfl, arrange_perm _ _, rfl, rfl, ?_⟩
    have hcancels : ¬(e.state = .ended ∨ e.state = .cancelled) := by rcases hlive with h | h <;> simp [h]
    simp only [exec, execCancelEvent]
    rw [request_owner_both hl hb]
    simp only [cancelEventOwner, he, if_neg hcancels]
    rw [refundAll_eq (by exact hwf)]
    rcases hlive with h | h
    · simp only [h, reduceCtorEq, if_false]
      rfl
    · simp only [h, if_true]
      rw [State.requestSweep_withFree]
      rfl

end Sys2Proof.Machine
end

section
/-! PROOFS. The Event Table's boundary (O55). -/

namespace Sys2Proof.Machine

variable {s : State} {n id : Nat} {e : EventRec}

/-! ## One event (R37, R144) -/

/-- R144: an event after the boundary into minute `n`. -/
def State.eventAfter (s : State) (n : Nat) (e : EventRec) : EventRec :=
  let e1 := e.darkened (s.slotDark e.slot)
  let e2 := if e1.opens n then { e1 with state := .opened } else e1
  if e2.ends n then { e2 with state := .ended, walk := some ⟨0, s.darkThreshold ≤ e2.dark, []⟩ } else e2

/-- R144: the number of sweeps that an event requests at the boundary into minute `n`: one where it opens, one where it ends. -/
def EventRec.moves (e : EventRec) (n : Nat) : Nat :=
  (if e.state = .scheduled ∧ e.openMinute ≤ n then 1 else 0)
    + (if ((e.state = .scheduled ∧ e.openMinute ≤ n) ∨ e.state = .opened) ∧ e.closeMinute ≤ n then 1 else 0)

/-- R144: the sweeps requested for the event of a number. -/
def State.movesAt (s : State) (n id : Nat) : Nat := ((s.events.get? id).map fun e => e.moves n).getD 0

theorem darkened_of_ne (h : e.state ≠ .opened) (dark : Bool) : e.darkened dark = e := by simp [EventRec.darkened, h]

theorem State.slotDark_iff (s : State) (slot : Nat) : s.slotDark slot = true ↔ ∃ x, s.slots[slot]? = some x ∧ x.dark = true := by
  unfold State.slotDark
  cases s.slots[slot]? <;> simp

/-- R37: the dark minutes after step 1. -/
def State.darkAfter (s : State) (e : EventRec) : Nat := if e.state = .opened ∧ s.slotDark e.slot = true then e.dark + 1 else e.dark

theorem darkened_eq (s : State) (e : EventRec) : e.darkened (s.slotDark e.slot) = { e with dark := s.darkAfter e } := by
  unfold EventRec.darkened State.darkAfter
  split <;> rfl

theorem eventAfter_over (h : e.state = .ended ∨ e.state = .cancelled) : s.eventAfter n e = e := by
  have hclosed : e.state ≠ .opened := by rcases h with h | h <;> simp [h]
  rcases h with h | h <;> simp [State.eventAfter, darkened_of_ne hclosed, EventRec.opens, EventRec.ends, h]

theorem eventAfter_scheduled (h : e.state = .scheduled) : s.eventAfter n e =
    if n < e.openMinute then e else if n < e.closeMinute then { e with state := .opened }
    else { e with state := .ended, walk := some ⟨0, decide (s.darkThreshold ≤ e.dark), []⟩ } := by
  have hclosed : e.state ≠ .opened := by simp [h]
  by_cases ho : n < e.openMinute
  · simp [State.eventAfter, darkened_of_ne hclosed, EventRec.opens, EventRec.ends, h, ho.not_ge]
  · by_cases hc : n < e.closeMinute
    · simp [State.eventAfter, darkened_of_ne hclosed, EventRec.opens, EventRec.ends, h, ho, hc, hc.not_ge, Nat.not_lt.mp ho]
    · simp [State.eventAfter, darkened_of_ne hclosed, EventRec.opens, EventRec.ends, h, ho, hc, Nat.not_lt.mp ho, Nat.not_lt.mp hc]

theorem eventAfter_opened (h : e.state = .opened) : s.eventAfter n e =
    if n < e.closeMinute then { e with dark := s.darkAfter e }
    else { e with state := .ended, dark := s.darkAfter e, walk := some ⟨0, decide (s.darkThreshold ≤ s.darkAfter e), []⟩ } := by
  by_cases hc : n < e.closeMinute
  · simp [State.eventAfter, darkened_eq, EventRec.opens, EventRec.ends, h, hc, hc.not_ge]
  · simp [State.eventAfter, darkened_eq, EventRec.opens, EventRec.ends, h, hc, Nat.not_lt.mp hc]

/-- At most two sweep requests, as a number of requests. -/
theorem sweeps_pair (u : State) (opens ends : Bool) :
    (if ends then (if opens then u.requestSweep .all else u).requestSweep .all else if opens then u.requestSweep .all else u) =
      u.sweeps ((if opens then 1 else 0) + (if ends then 1 else 0)) := by
  cases opens <;> cases ends <;> rfl

theorem EventRec.moves_eq (s : State) (e : EventRec) (n : Nat) : e.moves n =
    (if (e.darkened (s.slotDark e.slot)).opens n then 1 else 0) +
    (if (if (e.darkened (s.slotDark e.slot)).opens n then { e.darkened (s.slotDark e.slot) with state := .opened }
      else e.darkened (s.slotDark e.slot)).ends n then 1 else 0) := by
  have hopens : (e.darkened (s.slotDark e.slot)).opens n = decide (e.state = .scheduled ∧ e.openMinute ≤ n) := by
    simp [darkened_eq, EventRec.opens]
  rw [hopens]
  by_cases h : e.state = .scheduled ∧ e.openMinute ≤ n
  · simp [EventRec.moves, EventRec.ends, darkened_eq, h]
  · simp only [EventRec.moves, EventRec.ends, darkened_eq, h, decide_false, false_or, Bool.false_eq_true, if_false]
    simp

/-- An event's boundary: its record, and a sweep request for each of its moves. -/
theorem State.eventBoundary_eq (hwf : s.events.wf = true) (n id : Nat) : s.eventBoundary n id =
    State.sweeps (s.movesAt n id) { s with events := s.events.modify id (s.eventAfter n) } := by
  cases he : s.events.get? id with
  | none =>
    rw [Table.modify_of_none he]
    simp [State.eventBoundary, State.movesAt, he, State.sweeps]
  | some e =>
    rw [Table.modify_eq_const hwf he]
    simp only [State.movesAt, he, Option.map_some, Option.getD_some, EventRec.moves_eq s, ← sweeps_pair, State.eventBoundary]
    rfl

/-! ## Every event -/

theorem State.requestSweep_withEvents (s : State) (events : Table EventRec) (r : SweepRequest) :
    ({ s with events := events } : State).requestSweep r = { s.requestSweep r with events := events } := by
  obtain ⟨_, _, _, _, _, _, _, _, _, _, _, sweep, scopes⟩ := s
  unfold State.requestSweep State.mergeScope
  cases sweep with
  | none => rfl
  | some w => rcases scopes with _ | _ | es <;> cases r <;> dsimp only <;> (repeat' split) <;> rfl

theorem State.sweeps_withEvents (m : Nat) (s : State) (events : Table EventRec) :
    State.sweeps m { s with events := events } = { s.sweeps m with events := events } := by
  induction m with
  | zero => rfl
  | succ m ih => rw [State.sweeps_succ, ih, State.requestSweep_withEvents, State.sweeps_succ]

theorem foldl_modify_get? {α : Type} (f : α → α) {keys : List Nat} (hdistinct : keys.Nodup) (t : Table α) (j : Nat) :
    (keys.foldl (fun (t : Table α) k => t.modify k f) t).get? j = if j ∈ keys then (t.get? j).map f else t.get? j := by
  induction keys generalizing t with
  | nil => simp
  | cons k keys ih =>
    obtain ⟨hk, hdistinct⟩ := List.nodup_cons.mp hdistinct
    rw [List.foldl_cons, ih hdistinct, Table.get?_modify]
    by_cases h : k = j
    · subst h
      simp [hk]
    · simp [h, Ne.symm h]

/-- R144: event by event. -/
theorem foldl_eventBoundary (n : Nat) {keys : List Nat} (hdistinct : keys.Nodup) (hwf : s.events.wf = true) :
    keys.foldl (fun u id => u.eventBoundary n id) s = { s.sweeps (keys.map (s.movesAt n)).sum with
      events := keys.foldl (fun (t : Table EventRec) k => t.modify k (s.eventAfter n)) s.events } := by
  induction keys generalizing s with
  | nil => rfl
  | cons k keys ih =>
    obtain ⟨hk, hdistinct⟩ := List.nodup_cons.mp hdistinct
    have hstep : s.eventBoundary n k = { s.sweeps (s.movesAt n k) with events := s.events.modify k (s.eventAfter n) } := by
      rw [State.eventBoundary_eq hwf, State.sweeps_withEvents]
    have hmoves : keys.map ((s.eventBoundary n k).movesAt n) = keys.map (s.movesAt n) := by
      refine List.map_congr_left fun j hj => ?_
      have hne : k ≠ j := fun h => hk (h ▸ hj)
      simp [hstep, State.movesAt, Table.get?_modify, hne]
    have hafter : (s.eventBoundary n k).eventAfter n = s.eventAfter n := by
      funext e
      rw [hstep, State.sweeps_eq]
      rfl
    rw [List.foldl_cons, ih hdistinct (by rw [hstep]; exact Table.wf_modify hwf _ _), hmoves, hafter, List.foldl_cons, hstep,
      State.sweeps_withEvents, sweeps_sweeps, List.map_cons, List.sum_cons]

/-- R144: the whole boundary. -/
theorem exec_eventTableTakesBoundary {later : List Nat} (h : s.announced.events = n :: later) (hwf : s.events.wf = true) :
    exec .eventTableTakesBoundary s = .next { s.sweeps ((s.events.map Prod.fst).map (s.movesAt n)).sum with
      events := (s.events.map Prod.fst).foldl (fun (t : Table EventRec) k => t.modify k (s.eventAfter n)) s.events
      announced := { s.announced with events := later } } := by
  have hdistinct : (s.events.map Prod.fst).Nodup := ((Table.wf_iff _).mp hwf).imp fun h => h.ne
  have hfold := foldl_eventBoundary (s := { s with announced := { s.announced with events := later } }) n hdistinct hwf
  have hsweeps := State.sweeps_withSlots ((s.events.map Prod.fst).map (s.movesAt n)).sum s s.slots { s.announced with events := later }
  simp only [exec, execEventTableTakesBoundary, h]
  refine congrArg _ (hfold.trans ((congrArg (fun u : State => { u with
    events := (s.events.map Prod.fst).foldl (fun (t : Table EventRec) k => t.modify k (s.eventAfter n)) s.events }) hsweeps).trans ?_))
  rw [State.sweeps_eq]

/-- Settles O55. -/
theorem eventTableTakesABoundary : Obligations.EventTableTakesABoundary := by
  intro s n later hannounced hwf
  have hdistinct : (s.events.map Prod.fst).Nodup := ((Table.wf_iff _).mp hwf).imp fun h => h.ne
  have hsum : ((s.events.map Prod.fst).map (s.movesAt n)).sum = (s.events.map fun p => p.2.moves n).sum := by
    rw [List.map_map]
    refine congrArg List.sum (List.map_congr_left fun p hp => ?_)
    have hget : s.events.get? p.1 = some p.2 := (Table.get?_eq_some_iff hwf _ _).mpr hp
    simp [State.movesAt, hget]
  have hafter (id : Nat) : ((s.events.map Prod.fst).foldl (fun (t : Table EventRec) k => t.modify k (s.eventAfter n)) s.events).get? id =
      (s.events.get? id).map (s.eventAfter n) := by
    rw [foldl_modify_get? _ hdistinct]
    split
    · rfl
    next hid => rw [Table.get?_eq_none_of_not_mem hid, Option.map_none]
  refine ⟨_, exec_eventTableTakesBoundary hannounced hwf, rfl, fun id e dark he hdark => ?_, fun id hnone => ?_, fun hquiet => ?_, ?_, ?_⟩
  · have hid := (hafter id).trans (congrArg _ he)
    rw [Option.map_some] at hid
    have hdark' : dark = s.darkAfter e := hdark.trans (if_congr (and_congr Iff.rfl (s.slotDark_iff e.slot).symm) rfl rfl)
    subst hdark'
    refine ⟨fun h => ?_, fun h ho => ?_, fun h ho hc => ?_, fun h hc => ?_, fun h hc => ?_⟩
    · exact hid.trans (congrArg some (eventAfter_over h))
    · exact hid.trans (congrArg some ((eventAfter_scheduled h).trans (if_pos ho)))
    · exact hid.trans (congrArg some ((eventAfter_scheduled h).trans ((if_neg ho.not_gt).trans (if_pos hc))))
    · exact hid.trans (congrArg some ((eventAfter_opened h).trans (if_pos hc)))
    · refine hid.trans (congrArg some ?_)
      obtain ⟨h, ho⟩ | h := h
      · rw [eventAfter_scheduled h, if_neg ho.not_gt, if_neg hc.not_gt]
        simp [State.darkAfter, h]
      · rw [eventAfter_opened h, if_neg hc.not_gt]
  · exact (hafter id).trans (by rw [hnone]; rfl)
  · have hnone : (s.events.map fun p => p.2.moves n).sum = 0 := by
      refine List.sum_eq_zero fun m hm => ?_
      obtain ⟨p, hp, rfl⟩ := List.mem_map.mp hm
      obtain ⟨ho, hc⟩ := hquiet p.1 p.2 ((Table.get?_eq_some_iff hwf _ _).mpr hp)
      have hends : ¬(((p.2.state = .scheduled ∧ p.2.openMinute ≤ n) ∨ p.2.state = .opened) ∧ p.2.closeMinute ≤ n) := by
        rintro ⟨⟨hs, h⟩ | hs, hclose⟩
        · exact absurd h (ho hs).not_ge
        · exact absurd hclose (hc hs).not_ge
      exact congrArg₂ (· + ·) (if_neg fun h => absurd h.2 (ho h.1).not_ge) (if_neg hends)
    rw [hsum, hnone]
    exact ⟨rfl, rfl, rfl⟩
  · rintro moves hmoves _ rfl
    have hcount : moves = (s.events.map fun p => p.2.moves n).sum := hmoves
    rw [hsum, ← hcount]
    exact ⟨rfl, rfl, rfl⟩
  · rw [State.sweeps_eq]

end Sys2Proof.Machine
end

section
/-! PROOFS. The requests of the Alarm Unit: Fetch Alarm (O59), and acknowledging, reading, levels and mask (O60). -/

namespace Sys2Proof.Machine

variable {s : State} {a : AlarmUnit} {e x y : Entry} {k : AlarmKind} {body : List Byte}

/-! ## The first presentable entry (R165) -/

theorem AlarmUnit.before_iff (a : AlarmUnit) (x y : Entry) : a.before x y = true ↔ shownBefore a x y := by
  simp [before, shownBefore]

theorem shownBefore_asymm (h : shownBefore a x y) : ¬shownBefore a y x := by
  unfold shownBefore at h ⊢
  omega

theorem AlarmUnit.firstOf_mem {es : List Entry} (h : a.firstOf es = some y) : y ∈ es := by
  induction es with
  | nil => simp [firstOf] at h
  | cons x rest ih =>
    unfold firstOf at h
    split at h
    · simp_all
    next z hz =>
      split at h
      · obtain rfl : z = y := by simpa using h
        exact List.mem_cons_of_mem _ (ih hz)
      · simp_all

/-- R165: an entry that comes before every other one is the first. -/
theorem AlarmUnit.firstOf_eq {es : List Entry} (he : e ∈ es) (hfirst : ∀ x ∈ es, x = e ∨ shownBefore a e x) : a.firstOf es = some e := by
  induction es with
  | nil => simp at he
  | cons x rest ih =>
    have hrest : ∀ y ∈ rest, y = e ∨ shownBefore a e y := fun y hy => hfirst y (List.mem_cons_of_mem _ hy)
    unfold firstOf
    by_cases hin : e ∈ rest
    · obtain rfl | h := hfirst x List.mem_cons_self
      · simp [ih hin hrest]
      · simp [ih hin hrest, (a.before_iff e x).mpr h]
    · obtain rfl : e = x := (List.mem_cons.mp he).resolve_right hin
      cases hy : a.firstOf rest with
      | none => rfl
      | some y =>
        have hmem := firstOf_mem hy
        have hbefore : shownBefore a e y := (hrest y hmem).resolve_left fun h => hin (h ▸ hmem)
        have hafter : a.before y e = false := by
          rw [← Bool.not_eq_true, before_iff]
          exact shownBefore_asymm hbefore
        simp [hafter]

theorem presented_eq (a : AlarmUnit) : presented a = a.entries.filter a.presentable :=
  List.filter_congr fun e _ => by simp [AlarmUnit.presentable]

theorem AlarmUnit.presentable_iff (a : AlarmUnit) (e : Entry) : a.presentable e = true ↔ e.state = .raised ∧ a.mask < a.level e.kind := by
  simp [presentable]

theorem AlarmUnit.firstPresentable_eq (he : e ∈ a.entries) (hshown : a.presentable e = true)
    (hfirst : ∀ x ∈ a.entries, a.presentable x = true → x = e ∨ shownBefore a e x) : a.firstPresentable = some e :=
  firstOf_eq (List.mem_filter.mpr ⟨he, hshown⟩) fun x hx => hfirst x (List.mem_filter.mp hx).1 (List.mem_filter.mp hx).2

theorem fetchBody_eq (hraised : e.state = .raised) (n : Nat) : fetchBody e n =
    w8 (e.kind.rank - 1) ++ w16 e.subject ++ w8 (match e.type with | .condition => 0 | .occurrence => 1) ++ w8 e.repeats ++ w32 e.seq
      ++ w32 e.first.minute ++ w8 e.first.second ++ w32 e.last.minute ++ w8 e.last.second ++ w8 0 ++ w8 n := by
  cases ht : e.type <;> simp [fetchBody, wstamp, AlarmKind.code, AlarmType.code, EntryState.code, hraised, ht]

/-- R166: a fetch of the entry that comes first. -/
theorem exec_fetchAlarm {after : AlarmUnit} {bytes : List Byte} (hl : s.listening) (he : e ∈ s.alarms.entries) (hshown : s.alarms.presentable e = true)
    (hfirst : ∀ x ∈ s.alarms.entries, s.alarms.presentable x = true → x = e ∨ shownBefore s.alarms e x) (hafter : s.alarms.fetched e = after)
    (hbytes : fetchBody e (presented after).length = bytes) :
    s.attn = true ∧ exec (.fetchAlarm []) s = .next ({ s with alarms := after }.replied 0 ⟨.ok, bytes⟩) := by
  refine ⟨List.any_eq_true.mpr ⟨e, he, hshown⟩, ?_⟩
  simp only [exec, execFetchAlarm]
  rw [request_owner_both (length := 0) (body := []) hl rfl]
  simp only [fetchAlarmOwner, AlarmUnit.firstPresentable_eq he hshown hfirst, hafter, ← hbytes, presented_eq]
  rfl

/-- Settles O59. -/
theorem fetchAlarmPresentsTheFirst : Obligations.FetchAlarmPresentsTheFirst := by
  refine fun s hl => ⟨fun hlow => ?_, fun e hwf hraised hlevel after h => ?_⟩
  · have hnone : s.alarms.firstPresentable = none := by
      rw [AlarmUnit.firstPresentable, List.filter_eq_nil_iff.mpr (by simpa [State.attn] using hlow)]
      rfl
    simp only [exec, execFetchAlarm]
    rw [request_owner_both (length := 0) (body := []) hl rfl]
    simp only [fetchAlarmOwner, hnone]
    rfl
  have hshown : s.alarms.presentable e = true := (s.alarms.presentable_iff e).mpr ⟨hraised, hlevel⟩
  obtain ⟨k, hget, rfl, hkind, hover, htable, rfl⟩ | ⟨hover, hkind, htype, htable, rfl⟩ := h
  · refine exec_fetchAlarm hl (List.mem_append_right _ (List.mem_map.mpr ⟨_, Table.mem_of_get? hget, rfl⟩)) hshown (fun x hx hpresent => ?_) ?_ (fetchBody_eq hraised _)
    · obtain ⟨hstate, hmask⟩ := (s.alarms.presentable_iff x).mp hpresent
      obtain hx | hx := List.mem_append.mp hx
      · exact .inr (hover x (by simpa using hx) hstate hmask)
      · obtain ⟨⟨k', x⟩, hmem, rfl⟩ := List.mem_map.mp hx
        have hx := (Table.get?_eq_some_iff hwf k' x).mpr hmem
        by_cases hk : k' = alarmKey e.kind e.subject
        · subst hk
          exact .inl (Option.some.inj (hx.symm.trans hget))
        · exact .inr (htable k' x hx hk hstate hmask)
    · unfold AlarmUnit.fetched
      cases e.type with
      | condition => exact AlarmUnit.put_of_ne hkind
      | occurrence => rw [AlarmUnit.remove_eq, if_neg hkind]
  · refine exec_fetchAlarm hl (List.mem_append_left _ (by simpa using hover)) hshown (fun x hx hpresent => ?_) ?_ (fetchBody_eq hraised _)
    · obtain ⟨hstate, hmask⟩ := (s.alarms.presentable_iff x).mp hpresent
      obtain hx | hx := List.mem_append.mp hx
      · exact .inl (Option.some.inj ((Option.mem_toList.mp hx).symm.trans hover))
      · obtain ⟨⟨k', x⟩, hmem, rfl⟩ := List.mem_map.mp hx
        exact .inr (htable k' x ((Table.get?_eq_some_iff hwf k' x).mpr hmem) hstate hmask)
    · simp only [AlarmUnit.fetched, htype]
      rw [AlarmUnit.remove_eq, if_pos hkind]

/-! ## Acknowledging and reading one entry (R167, R170) -/

theorem kindOfRank_rank (k : AlarmKind) : kindOfRank k.rank = some k := by cases k <;> rfl

theorem namedAlarm_eq (hrank : u8 body 0 = k.rank) (hok : k.subjectOk (u16 body 1) = true) : namedAlarm body = some (k, u16 body 1) := by
  simp [namedAlarm, hrank, kindOfRank_rank, hok]

theorem entryBody_eq (a : AlarmUnit) (e : Entry) : a.entryBody e = entryOctets a e := by
  have hshown : wflag (a.presentable e) = w8 (if e.state = .raised ∧ a.mask < a.level e.kind then 1 else 0) := by
    simp [wflag, AlarmUnit.presentable_iff]
  rw [AlarmUnit.entryBody, entryOctets, hshown]
  cases ht : e.type <;> cases hs : e.state <;>
    simp [wstamp, AlarmKind.code, AlarmType.code, EntryState.code]

/-- R167, R170: a request that names an entry which stands in its place. -/
theorem exec_named (hl : s.listening) (hb : body.length = 3) (hrank : u8 body 0 = k.rank) (hok : k.subjectOk (u16 body 1) = true)
    (he : s.alarms.find? k (u16 body 1) = some e) :
    exec (.acknowledgeAlarm body) s = .next ({ s with alarms := s.alarms.acknowledge e }.replied 3
        ⟨.ok, wopt 1 (fun e1 : Entry => w8 e1.state.code) e.acknowledged⟩) ∧
      exec (.readAlarm body) s = .next (s.replied 3 ⟨.ok, entryOctets s.alarms e⟩) := by
  simp only [exec, execAcknowledgeAlarm, execReadAlarm, request_owner_both hl hb]
  simp only [ackOwner, readAlarmOwner, namedAlarm_eq hrank hok, he, ← entryBody_eq]
  exact ⟨rfl, rfl⟩

theorem exec_named_none (hl : s.listening) (hb : body.length = 3) (hrank : u8 body 0 = k.rank) (hok : k.subjectOk (u16 body 1) = true)
    (he : s.alarms.find? k (u16 body 1) = none) :
    exec (.acknowledgeAlarm body) s = .next (s.replied 3 ⟨.notFound, []⟩) ∧ exec (.readAlarm body) s = .next (s.replied 3 ⟨.notFound, []⟩) := by
  simp only [exec, execAcknowledgeAlarm, execReadAlarm, request_owner_both hl hb]
  simp only [ackOwner, readAlarmOwner, namedAlarm_eq hrank hok, he]
  exact ⟨rfl, rfl⟩

/-! ## The next entry (R170) -/

/-- R170: the test of Next Alarm, for every rank. -/
theorem AlarmUnit.following_eq (a : AlarmUnit) (rank subject : Nat) : a.following rank subject =
    a.entries.find? fun e => rank == 0 || (rank < e.kind.rank || (e.kind.rank == rank && subject < e.subject)) := by
  unfold following
  split
  next h => cases a.entries <;> simp [h]
  next h =>
    have hrank : (rank == 0) = false := beq_eq_false_iff_ne.mpr h
    simp only [hrank, Bool.false_or]

theorem u16_lt (body : List Byte) (i : Nat) : u16 body i < 65536 := by
  have hhigh := (body.getD i 0#8).isLt
  have hlow := (body.getD (i + 1) 0#8).isLt
  simp only [u16, u8]
  omega

/-- R170: the order of the table's places is the order of rank and subject. -/
theorem alarmKeyOf_lt_iff {rank subject : Nat} (hs : subject < 65536) (he : e.subject ≤ 65535) :
    alarmKeyOf rank subject < alarmKey e.kind e.subject ↔ rank < e.kind.rank ∨ (e.kind.rank = rank ∧ subject < e.subject) := by
  unfold alarmKeyOf alarmKey
  omega

/-- R170: an entry in the table is after a rank and subject where the first entry is asked for or where its place is later. -/
theorem following_test {rank subject j : Nat} (hs : subject < 65536) (hj : j = alarmKey e.kind e.subject ∧ e.subject ≤ 65535) :
    (rank == 0 || (rank < e.kind.rank || (e.kind.rank == rank && subject < e.subject))) = true ↔ rank = 0 ∨ alarmKeyOf rank subject < j := by
  rw [hj.1, alarmKeyOf_lt_iff hs hj.2]
  simp

theorem rank_pos (k : AlarmKind) : 1 ≤ k.rank := by cases k <;> decide

/-- R170: the reserved place is passed over, but where the first entry is asked for. -/
theorem following_table {rank subject : Nat} (hover : ∀ o, a.overflow = some o → o.kind = .tableOverflow ∧ o.subject = 0)
    (hfirst : rank = 0 → a.overflow = none) : a.following rank subject = (a.table.find? fun p =>
      rank == 0 || (rank < p.2.kind.rank || (p.2.kind.rank == rank && subject < p.2.subject))).map Prod.snd := by
  have hpassed : a.overflow.toList.find? (fun e => rank == 0 || (rank < e.kind.rank || (e.kind.rank == rank && subject < e.subject))) = none := by
    cases ho : a.overflow with
    | none => rfl
    | some o =>
      have hrank : rank ≠ 0 := fun h => by simp [hfirst h] at ho
      obtain ⟨hkind, hsubject⟩ := hover o ho
      simp [hkind, hsubject, hrank, AlarmKind.rank]
  rw [AlarmUnit.following_eq, AlarmUnit.entries, List.find?_append, hpassed, Option.none_or, List.find?_map]
  rfl

theorem exec_nextAlarm_some (hl : s.listening) (hb : body.length = 3) (hrank : u8 body 0 ≤ 15)
    (h : s.alarms.following (u8 body 0) (u16 body 1) = some e) :
    exec (.nextAlarm body) s = .next (s.replied 3 ⟨.ok, entryOctets s.alarms e⟩) := by
  simp only [exec, execNextAlarm, request_owner_both hl hb]
  simp only [nextAlarmOwner, if_neg hrank.not_gt, h, ← entryBody_eq]
  rfl

theorem exec_nextAlarm_none (hl : s.listening) (hb : body.length = 3) (hrank : u8 body 0 ≤ 15)
    (h : s.alarms.following (u8 body 0) (u16 body 1) = none) : exec (.nextAlarm body) s = .next (s.replied 3 ⟨.notFound, []⟩) := by
  simp only [exec, execNextAlarm, request_owner_both hl hb]
  simp only [nextAlarmOwner, if_neg hrank.not_gt, h]
  rfl

/-! ## Levels (R168) -/

theorem exec_setAlarmLevel (hl : s.listening) (hb : body.length = 2) (hrank : u8 body 0 = k.rank) (hlevel : u8 body 1 ≤ 7) :
    exec (.setAlarmLevel body) s = .next ({ s with alarms := s.alarms.setLevel k (u8 body 1) }.replied 2 ⟨.ok, []⟩) := by
  simp only [exec, execSetAlarmLevel, request_owner_both hl hb]
  simp only [setAlarmLevelOwner, hrank, kindOfRank_rank, if_neg hlevel.not_gt]
  rfl

theorem setLevel_zero (a : AlarmUnit) (k : AlarmKind) : a.setLevel k 0 = { a with
    levels := a.levels.set (k.rank - 1) 0
    table := a.table.filter fun (p : Nat × Entry) => p.2.kind ≠ k
    overflow := if k = AlarmKind.tableOverflow then none else a.overflow } := by
  cases k <;> rfl

/-- Settles O60. -/
theorem alarmRequests : Obligations.AlarmRequests := by
  refine ⟨fun s body k hl hb hrank hok => ⟨?_, ?_, fun hover htable => ?_⟩, fun s body hl hb hrank hwf htable hover => ⟨fun o hzero ho => ?_,
    fun hfirst => ⟨fun k e he hafter hlow => ?_, fun hnone => ?_⟩⟩, fun s hl => ?_, fun s body k hl hb hrank => ⟨fun hone hseven => ?_, fun hzero => ?_⟩,
    fun s body hl hb hmask => ?_⟩
  · rintro e hk he rfl hsubject
    obtain ⟨hack, hread⟩ := exec_named hl hb hrank hok ((AlarmUnit.find?_of_ne hk).trans he)
    refine ⟨fun htype hstate => ?_, fun hremoved => ?_, hread⟩
    · have hacked : e.acknowledged = some { e with state := .acked } := by
        cases hs : e.state <;> simp_all [Entry.acknowledged]
      rw [hack, AlarmUnit.acknowledge, hacked, ← hsubject]
      dsimp only
      rw [AlarmUnit.put_of_ne (by exact hk)]
      rfl
    · have hacked : e.acknowledged = none := by
        obtain h | h := hremoved
        · simp [Entry.acknowledged, h]
        · cases ht : e.type <;> simp [Entry.acknowledged, h, ht]
      rw [hack, AlarmUnit.acknowledge, hacked, ← hsubject]
      dsimp only
      rw [AlarmUnit.remove_eq, if_neg hk]
      rfl
  · rintro o rfl ho hkind htype
    obtain ⟨hack, hread⟩ := exec_named hl hb hrank hok ((AlarmUnit.find?_eq ..).trans ho)
    have hacked : o.acknowledged = none := by simp [Entry.acknowledged, htype]
    refine ⟨?_, hread⟩
    rw [hack, AlarmUnit.acknowledge, hacked]
    dsimp only
    rw [AlarmUnit.remove_eq, if_pos hkind]
    rfl
  · refine exec_named_none hl hb hrank hok ?_
    rw [AlarmUnit.find?_eq]
    split
    next hk => exact hover hk
    next hk => exact htable hk
  · refine exec_nextAlarm_some hl hb hrank ?_
    simp [AlarmUnit.following, hzero, AlarmUnit.entries, ho]
  · refine exec_nextAlarm_some hl hb hrank ?_
    rw [following_table hover hfirst, Table.find?_eq hwf he]
    · rfl
    · exact (following_test (u16_lt ..) (htable k e he)).mpr hafter
    · intro j y hj hy
      obtain ⟨hrank, hplace⟩ := hlow j hj (by simp [hy])
      rw [← Bool.not_eq_true, following_test (u16_lt ..) (htable j y hy)]
      omega
  · refine exec_nextAlarm_none hl hb hrank ?_
    rw [following_table hover hfirst, List.find?_eq_none.mpr]
    · rfl
    · rintro ⟨j, y⟩ hmem
      have hy := (Table.get?_eq_some_iff hwf j y).mpr hmem
      obtain ⟨hrank, hplace⟩ := hnone j (by simp [hy])
      rw [following_test (u16_lt ..) (htable j y hy)]
      omega
  · simp only [exec, execReadAlarmUnit, request_owner_both (length := 0) (body := []) hl rfl, presented_eq]
    rfl
  · rw [exec_setAlarmLevel hl hb hrank hseven, AlarmUnit.setLevel, if_neg (by omega)]
  · rw [exec_setAlarmLevel hl hb hrank (by omega), hzero, setLevel_zero]
  · simp only [exec, execSetAlarmMask, request_owner_both hl hb, if_neg hmask.not_gt]
    rfl

end Sys2Proof.Machine
end

section
/-! PROOFS. The contact inputs (O57): the dark flag of a slot, a debounced level that is taken, and Configure Input. -/

namespace Sys2Proof.Machine

variable {s t u : State} {n : Nat} {x y z : Input} {body : List Byte}

/-! ## One input (R157) -/

theorem set_self_of_getElem? {α : Type} {l : List α} {i : Nat} {a : α} (h : l[i]? = some a) : l.set i a = l := by
  obtain ⟨hi, rfl⟩ := List.getElem?_eq_some_iff.mp h
  exact List.set_getElem_self hi

theorem modify_set {α : Type} {l : List α} {i : Nat} (hi : i < l.length) (a : α) (f : α → α) : (l.set i a).modify i f = l.set i (f a) := by
  refine List.ext_getElem? fun j => ?_
  rw [List.getElem?_modify, List.getElem?_set, List.getElem?_set]
  by_cases h : i = j
  · subst h
    simp [hi]
  · simp [h]

theorem modify_eq_set {α : Type} {l : List α} {i : Nat} {a : α} (h : l[i]? = some a) (f : α → α) : l.modify i f = l.set i (f a) := by
  obtain ⟨hi, -⟩ := List.getElem?_eq_some_iff.mp h
  rw [← modify_set hi, set_self_of_getElem? h]

theorem sensed_set {inputs : List Input} (h : ∀ x ∈ inputs, x.role = .carrier → x.sense = .levelHigh ∨ x.sense = .levelLow)
    (hy : y.role = .carrier → y.sense = .levelHigh ∨ y.sense = .levelLow) :
    ∀ x ∈ inputs.set n y, x.role = .carrier → x.sense = .levelHigh ∨ x.sense = .levelLow := by
  intro x hx
  obtain hx | rfl := List.mem_or_eq_of_mem_set hx
  · exact h x hx
  · exact hy

/-! ## The dark flag of a slot (R35, R36) -/

theorem darkNow_iff (h : s.Sensed) (slot : Nat) : s.darkNow slot = true ↔ darkened s.inputs slot := by
  rw [State.darkNow, List.any_eq_true]
  refine exists_congr fun x => and_congr_right fun hx => ?_
  simp only [Input.darkens, Bool.and_eq_true, beq_iff_eq, decide_eq_true_eq, and_assoc]
  refine and_congr_right fun hrole => and_congr_right fun _ => ?_
  obtain hs | hs := h x hx hrole <;> cases hv : x.level <;> simp [hs, Sense.sensed]

/-- R35: what working a slot's dark flag out again does. -/
theorem refreshDark_workedOut (h : s.Sensed) (slot : Nat) : darkWorkedOut s (s.refreshDark slot) slot := by
  intro x dark hx hdark
  have hnow : s.darkNow slot = dark := Bool.eq_iff_iff.mpr ((darkNow_iff h slot).trans hdark.symm)
  simp only [State.refreshDark, hx, hnow, State.updSlot, modify_eq_set hx, State.followCondition_eq]
  cases hold : x.dark <;> cases hnew : dark <;> rfl

/-! ## A level that is taken (R157, R158) -/

section Changed

variable {level : Level}

/-- R158: a change that an edge-sensed PLAIN input reports. -/
theorem contactChanged_edge (hrole : x.role = .plain)
    (h : (x.sense = .rising ∧ level = .high) ∨ (x.sense = .falling ∧ level = .low) ∨ x.sense = .both) :
    s.contactChanged n x level = s.raiseOccurrence .contact n := by
  obtain ⟨hs, rfl⟩ | ⟨hs, rfl⟩ | hs := h <;> simp [State.contactChanged, hrole, hs]

theorem contactChanged_quiet (hrole : x.role = .plain) (h : (x.sense = .rising ∧ level = .low) ∨ (x.sense = .falling ∧ level = .high)) :
    s.contactChanged n x level = s := by
  obtain ⟨hs, rfl⟩ | ⟨hs, rfl⟩ := h <;> simp [State.contactChanged, hrole, hs]

theorem contactChanged_stands (hrole : x.role = .plain) (h : (x.sense = .levelHigh ∧ level = .high) ∨ (x.sense = .levelLow ∧ level = .low)) :
    s.contactChanged n x level = (s.updInput n fun x => { x with standing := true }).raiseCondition .contact n := by
  obtain ⟨hs, rfl⟩ | ⟨hs, rfl⟩ := h <;> simp [State.contactChanged, hrole, hs, Sense.sensed]

theorem contactChanged_ceases (hrole : x.role = .plain) (h : (x.sense = .levelHigh ∧ level = .low) ∨ (x.sense = .levelLow ∧ level = .high)) :
    s.contactChanged n x level = (s.updInput n fun x => { x with standing := false }).endAlarm .contact n := by
  obtain ⟨hs, rfl⟩ | ⟨hs, rfl⟩ := h <;> simp [State.contactChanged, hrole, hs, Sense.sensed]

end Changed

/-- R158: the state in which a level has been taken and not yet acted on. -/
def State.stamped (s : State) (n : Nat) (x : Input) : State :=
  { s with inputs := s.inputs.set n { x with level := x.pin, timer := none, stamp := some s.now } }

theorem stamped_updInput (hn : n < s.inputs.length) (f : Input → Input) : (s.stamped n x).updInput n f =
    { s with inputs := s.inputs.set n (f { x with level := x.pin, timer := none, stamp := some s.now }) } := by
  simp only [State.updInput, State.stamped, modify_set hn]

/-- R158: what a level that has been taken does. -/
theorem contactChanged_taken (hn : n < s.inputs.length) (hsensed : (s.stamped n x).Sensed) :
    levelTaken s ((s.stamped n x).contactChanged n x x.pin) n x := by
  rintro now y rfl rfl
  refine ⟨fun hrole => ?_, fun hrole _ => ?_, fun hrole => ⟨fun h => ?_, fun h => ?_, fun h => ?_, fun h => ?_⟩⟩
  · have hnothing : (s.stamped n x).contactChanged n x x.pin = s.stamped n x := by simp [State.contactChanged, hrole]
    exact hnothing
  · have hdark : (s.stamped n x).contactChanged n x x.pin = (s.stamped n x).refreshDark x.slot := by simp [State.contactChanged, hrole]
    rw [hdark]
    exact refreshDark_workedOut hsensed x.slot
  · exact contactChanged_edge hrole h
  · exact contactChanged_quiet hrole h
  · rw [contactChanged_stands hrole h, stamped_updInput hn]
    rfl
  · rw [contactChanged_ceases hrole h, stamped_updInput hn]
    rfl

/-- R157: a level that an input takes, whatever its timer. -/
theorem levelTaken_takeLevel {timer : Option Nat} (hn : n < s.inputs.length) (hsensed : (s.stamped n x).Sensed) :
    levelTaken s (({ s with inputs := s.inputs.set n { x with timer := timer } } : State).takeLevel n x) n x := by
  have htaken : ({ s with inputs := s.inputs.set n { x with timer := timer } } : State).takeLevel n x =
      (s.stamped n x).contactChanged n x x.pin := by
    simp only [State.takeLevel, State.updInput, modify_set hn]
    rfl
  rw [htaken]
  exact contactChanged_taken hn hsensed

/-! ## Configure Input (R159) -/

theorem inputBody_eq (x : Input) : inputBody x = inputOctets x := by
  unfold inputBody inputOctets
  cases hr : x.role <;> cases hs : x.sense <;> cases hp : x.pin <;> cases hl : x.level <;> cases ht : x.stamp <;>
    simp [Role.code, Sense.code, levelCode, wflag, wopt, wstamp] <;> rfl

/-- R159, step 1. -/
theorem endStanding_eq (hx : s.inputs[n]? = some x) : s.endStanding n x = { s with
    inputs := s.inputs.set n { x with standing := false }
    alarms := if x.standing then s.alarms.endCondition .contact n else s.alarms } := by
  cases hs : x.standing with
  | true =>
    simp only [State.endStanding, hs, if_true, State.updInput, modify_eq_set hx]
    rfl
  | false =>
    have hsame : { x with standing := false } = x := by rw [← hs]
    rw [State.endStanding, hs, hsame, set_self_of_getElem? hx]
    rfl

/-- R159, step 2: the alarms without a CONTACT entry of the other type. -/
def AlarmUnit.droppedOther (a : AlarmUnit) (n : Nat) (type : AlarmType) : AlarmUnit :=
  match a.table.get? (alarmKey .contact n) with
  | none => a
  | some e => if e.type = type then a else { a with table := a.table.erase (alarmKey .contact n) }

theorem dropOtherType_eq (s : State) (n : Nat) (type : AlarmType) :
    s.dropOtherType n type = { s with alarms := s.alarms.droppedOther n type } := by
  have hfind : s.alarms.find? .contact n = s.alarms.table.get? (alarmKey .contact n) := rfl
  unfold State.dropOtherType AlarmUnit.droppedOther
  rw [hfind]
  cases s.alarms.table.get? (alarmKey .contact n) with
  | none => rfl
  | some e =>
    dsimp only
    split <;> rfl

theorem contactEnded_dropped (a : AlarmUnit) (n : Nat) (standing : Bool) (role : Role) (type : AlarmType) :
    contactEnded a (if role = .plain then (if standing then a.endCondition .contact n else a).droppedOther n type
      else if standing then a.endCondition .contact n else a) n standing role type := by
  refine ⟨_, rfl, fun h => ?_, fun hrole e he => ⟨fun htype => ?_, fun htype => ?_⟩⟩
  · by_cases hrole : role = .plain
    · rw [if_pos hrole, AlarmUnit.droppedOther, h.resolve_left (not_not.mpr hrole)]
    · rw [if_neg hrole]
  · simp only [if_pos hrole, AlarmUnit.droppedOther, he, if_pos htype]
  · simp only [if_pos hrole, AlarmUnit.droppedOther, he, if_neg htype]

/-- R159, steps 1 and 2. -/
theorem contactSettled_eq (hx : s.inputs[n]? = some x) (role : Role) (type : AlarmType) :
    (if role = .plain then (s.endStanding n x).dropOtherType n type else s.endStanding n x) = { s with
      inputs := s.inputs.set n { x with standing := false }
      alarms := if role = .plain then (if x.standing then s.alarms.endCondition .contact n else s.alarms).droppedOther n type
        else if x.standing then s.alarms.endCondition .contact n else s.alarms } := by
  rw [endStanding_eq hx, dropOtherType_eq]
  split <;> rfl

/-- R159: an input without its standing condition, out of the role CARRIER. -/
def Input.leaving (x : Input) : Input := { x with standing := false, role := if x.role = .carrier then .none else x.role }

/-- R159, step 3: the state in which an input has left the role CARRIER, with the alarms that steps 1 and 2 leave. -/
def State.left (s : State) (n : Nat) (x : Input) (a : AlarmUnit) : State :=
  if x.role = .carrier then ({ s with inputs := s.inputs.set n x.leaving, alarms := a } : State).refreshDark x.slot
  else { s with inputs := s.inputs.set n x.leaving, alarms := a }

theorem leaveCarrier_eq (hn : n < s.inputs.length) (a : AlarmUnit) :
    ({ s with inputs := s.inputs.set n { x with standing := false }, alarms := a } : State).leaveCarrier n x = s.left n x a := by
  simp only [State.leaveCarrier, State.left, State.updInput, modify_set hn, Input.leaving]
  split <;> rfl

theorem left_carrier (h : x.role = .carrier) (a : AlarmUnit) :
    s.left n x a = ({ s with inputs := s.inputs.set n x.leaving, alarms := a } : State).refreshDark x.slot := if_pos h

theorem left_inputs (s : State) (n : Nat) (x : Input) (a : AlarmUnit) : (s.left n x a).inputs = s.inputs.set n x.leaving := by
  unfold State.left
  split
  · simp
  · rfl

theorem left_now (s : State) (n : Nat) (x : Input) (a : AlarmUnit) : (s.left n x a).now = s.now := by
  unfold State.left State.now
  split <;> simp

/-- R159, steps 4 to 6: the state in which an input's configuration has been stored. -/
theorem applyConfig_eq {role : Role} {slot debounce : Nat} {sense : Sense} (hu : u.inputs = s.inputs.set n y) (hn : n < s.inputs.length)
    (hz : z = { y with role := role, slot := slot, sense := sense, debounce := debounce, timer := y.timer.map fun _ => 0 }) :
    (role = .none → u.applyConfig n x ⟨role, slot, sense, debounce⟩ = { u with inputs := s.inputs.set n z }) ∧
    (role = .carrier → u.applyConfig n x ⟨role, slot, sense, debounce⟩ = ({ u with inputs := s.inputs.set n z } : State).refreshDark slot) ∧
    (role = .plain → some x.level ≠ sense.sensed → u.applyConfig n x ⟨role, slot, sense, debounce⟩ = { u with inputs := s.inputs.set n z }) ∧
    (role = .plain → some x.level = sense.sensed → u.applyConfig n x ⟨role, slot, sense, debounce⟩ =
      ({ u with inputs := s.inputs.set n { z with standing := true } } : State).raiseCondition .contact n) := by
  subst hz
  refine ⟨fun h => ?_, fun h => ?_, fun h hs => ?_, fun h hs => ?_⟩ <;> subst h
  · simp only [State.applyConfig, State.updInput, hu, modify_set hn]
  · simp only [State.applyConfig, State.updInput, hu, modify_set hn]
  · simp only [State.applyConfig, State.updInput, hu, modify_set hn, if_neg hs]
  · simp only [State.applyConfig, State.updInput, hu, modify_set hn, if_pos hs]

theorem configAt_eq {role : Role} {sense : Sense} (hn : u8 body 0 ≤ 31) (hrole : roleOf (u8 body 1) = some role)
    (hsense : senseOf (u8 body 3) = some sense) (hdebounce : u16 body 4 ≤ 2550) (hten : u16 body 4 % 10 = 0)
    (hcarrier : role = .carrier → u8 body 2 ≤ 95 ∧ (sense = .levelHigh ∨ sense = .levelLow)) :
    configAt body = some (role, u8 body 2, sense, u16 body 4) := by
  have hslot : ¬(role = .carrier ∧ 95 < u8 body 2) := fun h => (hcarrier h.1).1.not_gt h.2
  have hlevel : ¬(role = .carrier ∧ (!sense.isLevel) = true) := by
    rintro ⟨h, hsense⟩
    obtain rfl | rfl := (hcarrier h).2 <;> simp [Sense.isLevel, Sense.sensed] at hsense
  have htest : ¬(2550 < u16 body 4 ∨ u16 body 4 % 10 ≠ 0) := by omega
  simp only [configAt, hrole, hsense, if_neg hn.not_gt, if_neg htest, if_neg hslot, if_neg hlevel]

theorem contactType_eq (sense : Sense) : sense.contactType = match sense with
    | .levelHigh | .levelLow => .condition
    | _ => .occurrence := by
  cases sense <;> rfl

/-- R159: the level of an input is the one that its new sense holds. -/
theorem sensed_iff (level : Level) (sense : Sense) :
    some level = sense.sensed ↔ (sense = .levelHigh ∧ level = .high) ∨ (sense = .levelLow ∧ level = .low) := by
  cases sense <;> cases level <;> simp [Sense.sensed]

/-- Settles O57. -/
theorem contactInputs : Obligations.ContactInputs := by
  refine ⟨fun s n x hx hsensed _ => ?_, fun s hl => ?_, ?_⟩
  · have hn : n < s.inputs.length := (List.getElem?_eq_some_iff.mp hx).1
    have hlevels : x.role = .carrier → x.sense = .levelHigh ∨ x.sense = .levelLow := hsensed x (List.mem_of_getElem? hx)
    have hstamped (pin : Level) : (s.stamped n { x with pin := pin }).Sensed := sensed_set hsensed hlevels
    refine ⟨fun level hlevel => ?_, fun level hpin hlevel => ?_, fun level hpin hlevel hd => ?_, fun level hpin hlevel hd => ?_,
      fun ms hms hdue => ⟨s.takeLevel n x, ?_, ?_⟩, fun hearly => ?_⟩
    · simp only [exec, execPinLevelChange, hx, if_pos hlevel.symm]
    · subst hlevel
      simp only [exec, execPinLevelChange, hx, if_neg hpin.symm, State.updInput, modify_eq_set hx]
      simp
    · simp only [exec, execPinLevelChange, hx, if_neg hpin.symm, State.updInput, modify_eq_set hx, if_neg hlevel]
      simp [hd]
    · refine ⟨_, ?_, levelTaken_takeLevel (timer := some 0) hn (hstamped level)⟩
      simp only [exec, execPinLevelChange, hx, if_neg hpin.symm, State.updInput, modify_eq_set hx, if_neg hlevel, hd]
      simp [hlevel]
    · have hrun : x.due = true := by simp [Input.due, hms, hdue]
      simp only [exec, execDebounceTimerExpiry, hx, hrun, if_true]
    · have htaken := levelTaken_takeLevel (s := s) (x := x) (timer := x.timer) hn (hstamped x.pin)
      rwa [set_self_of_getElem? hx] at htaken
    · have hrun : x.due = false := by
        cases ht : x.timer with
        | none => simp [Input.due, ht]
        | some ms => simpa [Input.due, ht] using hearly ms ht
      simp only [exec, execDebounceTimerExpiry, hx, hrun, Bool.false_eq_true, if_false]
  · simp only [exec, execReadInputs]
    rw [request_owner_both (length := 0) (body := []) hl rfl, funext inputBody_eq]
    rfl
  rintro s body n x y z role sense hl hsensed hb rfl hn hx _ hrole hsense hdebounce hten hcarrier rfl rfl
  have hlen : u8 body 0 < s.inputs.length := (List.getElem?_eq_some_iff.mp hx).1
  have hconfig := configAt_eq hn hrole hsense hdebounce hten fun h => ⟨(hcarrier h).1, (hcarrier h).2.2⟩
  obtain ⟨a, ha⟩ : ∃ a, a = if role = .plain then (if x.standing then s.alarms.endCondition .contact (u8 body 0) else s.alarms).droppedOther
    (u8 body 0) sense.contactType else if x.standing then s.alarms.endCondition .contact (u8 body 0) else s.alarms := ⟨_, rfl⟩
  have hended : contactEnded s.alarms a (u8 body 0) x.standing role sense.contactType := ha ▸ contactEnded_dropped ..
  rw [contactType_eq] at hended
  have hleaving : x.leaving.role = .carrier → x.leaving.sense = .levelHigh ∨ x.leaving.sense = .levelLow := by
    unfold Input.leaving
    dsimp only
    split
    · simp
    next hrole => exact fun h => absurd h hrole
  obtain ⟨hnone, hdark, hquiet, hstands⟩ := applyConfig_eq (u := s.left (u8 body 0) x a) (x := x) (role := role) (slot := u8 body 2)
    (debounce := u16 body 4) (sense := sense) (left_inputs ..) hlen rfl
  refine ⟨a, s.left (u8 body 0) x a, _, (s.left (u8 body 0) x a).applyConfig (u8 body 0) x ⟨role, u8 body 2, sense, u16 body 4⟩, hended,
    fun hleft => if_neg hleft, fun hleft => ?_, rfl, ?_, fun hc => ?_, fun hp hs => ?_, ?_⟩
  · rw [left_carrier hleft]
    exact refreshDark_workedOut (s := { s with inputs := s.inputs.set (u8 body 0) x.leaving, alarms := a }) (sensed_set hsensed hleaving) x.slot
  · rintro (h | ⟨h, hs⟩)
    · exact hnone h
    · exact hquiet h (mt (sensed_iff ..).mp hs)
  · rw [hdark hc]
    exact refreshDark_workedOut (s := { s.left (u8 body 0) x a with inputs := _ }) (sensed_set hsensed fun _ => (hcarrier hc).2.2) _
  · have hnow : (⟨s.clock.minute, s.clock.second⟩ : Stamp) = (s.left (u8 body 0) x a).now := (left_now ..).symm
    rw [hstands hp ((sensed_iff ..).mpr hs), hnow]
    rfl
  · have hconfigured : s.configure (u8 body 0) x ⟨role, u8 body 2, sense, u16 body 4⟩ =
        (s.left (u8 body 0) x a).applyConfig (u8 body 0) x ⟨role, u8 body 2, sense, u16 body 4⟩ := by
      simp only [State.configure]
      rw [contactSettled_eq hx, ← ha, leaveCarrier_eq hlen]
    simp only [exec, execConfigureInput, request_owner_both hl hb]
    simp only [configureInputOwner, hconfig, hx, hconfigured]
    cases x.level <;> rfl

end Sys2Proof.Machine
end

section
/-! PROOFS. Go Live (O16). -/

namespace Sys2Proof.Machine

variable {s u : State}

/-! ## Poll cycles on every leg (R74) -/

/-- R74: an element after poll cycles have started on the legs below `k`. -/
def Element.cycledBelow (k : Nat) (x : Element) : Element := if x.leg < k ∧ x.state.polled then { x with pollDue := true } else x

/-- R74: the legs after poll cycles have started on those below `k`. -/
def State.legsCycledBelow (s : State) (k : Nat) : List Leg :=
  s.legs.mapIdx fun i l => if i < k then { l with pollTimer := some (s.link.pollCycle * 1000) } else l

theorem cycledBelow_succ (k : Nat) (x : Element) :
    (if (x.cycledBelow k).leg = k ∧ (x.cycledBelow k).state.polled then { x.cycledBelow k with pollDue := true } else x.cycledBelow k) =
      x.cycledBelow (k + 1) := by
  unfold Element.cycledBelow
  rcases lt_trichotomy x.leg k with h | h | h <;> cases hp : x.state.polled
  · simp [hp]
  · simp [h, hp, (by omega : x.leg < k + 1)]
  · simp [hp]
  · simp [h, hp]
  · simp [hp]
  · simp [h.not_gt, h.ne', h.not_ge, hp]

theorem legsCycledBelow_succ (s : State) (k : Nat) : ((s.legsCycledBelow k).modify k fun l => { l with pollTimer := some (s.link.pollCycle * 1000) }) =
    s.legsCycledBelow (k + 1) := by
  refine List.ext_getElem? fun i => ?_
  rw [List.getElem?_modify, State.legsCycledBelow, State.legsCycledBelow, List.getElem?_mapIdx, List.getElem?_mapIdx]
  cases s.legs[i]? with
  | none => rfl
  | some l =>
    rcases lt_trichotomy k i with h | rfl | h
    · simp [h.ne, h.not_gt, h.not_ge]
    · simp
    · simp [h.ne', h, (by omega : i < k + 1)]

theorem mapAll_mapAll {α : Type} (t : Table α) (f g : α → α) : Table.mapAll (fun _ => g) (Table.mapAll (fun _ => f) t) = Table.mapAll (fun _ x => g (f x)) t := by
  simp [Table.mapAll]

/-- R74: poll cycles start, leg by leg. -/
theorem foldl_startCycle (s : State) (k : Nat) : (List.range k).foldl (fun s leg => s.startCycle leg) s = { s with
    elements := s.elements.mapAll fun _ x => x.cycledBelow k, legs := s.legsCycledBelow k } := by
  induction k with
  | zero =>
    have helements : (s.elements.mapAll fun _ x => x.cycledBelow 0) = s.elements := by simp [Table.mapAll, Element.cycledBelow]
    have hlegs : s.legsCycledBelow 0 = s.legs := List.ext_getElem? fun i => by simp [State.legsCycledBelow]
    rw [helements, hlegs]
    rfl
  | succ k ih =>
    rw [List.range_succ, List.foldl_append, ih, List.foldl_cons, List.foldl_nil, ← legsCycledBelow_succ, ← funext (cycledBelow_succ k)]
    simp only [State.startCycle, mapAll_mapAll]
    rfl

/-! ## Go Live (R177) -/

theorem forgotten_forgotten (x : Tap) : x.forgotten.forgotten = x.forgotten := by simp [Tap.forgotten]

/-- R62: what a request of scope ALL does to the sweep, to the scopes and to taps without a confirmed setting. -/
theorem requestSweep_all (s : State) : (s.sweep = none → (s.requestSweep .all).sweep = some ⟨.all, 0⟩ ∧ (s.requestSweep .all).scopes = s.scopes) ∧
    (∀ w, s.sweep = some w → (s.requestSweep .all).sweep = some w ∧ (s.requestSweep .all).scopes = some .all) ∧
    ∀ i, (∀ x, s.taps.get? i = some x → x.forgotten = x) → (s.requestSweep .all).taps.get? i = s.taps.get? i := by
  refine ⟨fun h => ?_, fun w h => ?_, fun i hi => ?_⟩
  · simp [State.requestSweep, h, SweepRequest.scope]
  · rcases hp : s.scopes with _ | _ | es <;> simp [State.requestSweep, h, State.mergeScope, hp, State.clearUnder]
  · unfold State.requestSweep State.mergeScope
    cases hw : s.sweep with
    | none => rfl
    | some w =>
      rcases hp : s.scopes with _ | _ | es
      · rfl
      · rfl
      · cases hx : s.taps.get? i with
        | none => simp [State.clearUnder, hx]
        | some x => simp [State.clearUnder, hx, hi x hx]

/-- R177, steps 1 to 4, before the sweep and the poll cycles. -/
def State.entering (s : State) : State := { s with
  elements := s.elements.mapAll fun _ x => { x with state := .suspect, miss := 0, since := none, priority := false }
  taps := s.taps.mapAll fun _ t => t.forgotten
  mode := .live
  billing := { s.billing with start := some s.clock.minute, nextClose := some (s.clock.minute + s.billing.length) } }

theorem goLive_eq (s : State) : s.goLive = { s.entering with
    taps := (s.entering.requestSweep .all).taps, sweep := (s.entering.requestSweep .all).sweep, scopes := (s.entering.requestSweep .all).scopes
    elements := s.entering.elements.mapAll fun _ x => x.cycledBelow 4, legs := s.legsCycledBelow 4 } := by
  have hcycles : s.goLive = (List.range 4).foldl (fun s leg => s.startCycle leg) (s.entering.requestSweep .all) := rfl
  rw [hcycles, foldl_startCycle, State.requestSweep_eq]
  rfl

/-- Settles O16. -/
theorem goLiveStartsThePart : Obligations.GoLiveStartsThePart := by
  intro s hl hm hlegs helements
  obtain ⟨hstart, hjoin, htaps⟩ := requestSweep_all s.entering
  refine ⟨s.goLive, ?_, ?_⟩
  · have hloading : ¬s.mode = .live := by simp [hm]
    simp only [exec, execGoLive]
    rw [request_owner_both (length := 0) (body := []) hl rfl, goLiveOwner, if_neg hloading]
    rfl
  rw [goLive_eq]
  refine ⟨rfl, fun e x hx => ?_, fun i => ?_, fun e he => ?_, rfl, hstart, hjoin, ?_, rfl⟩
  · have hleg : x.leg < 4 := helements e x hx
    simp [State.entering, hx, Element.cycledBelow, hleg, ElementState.polled]
  · refine (htaps i fun x hx => ?_).trans ?_
    · simp only [State.entering, Table.get?_mapAll] at hx
      obtain ⟨y, -, rfl⟩ := Option.map_eq_some_iff.mp hx
      exact forgotten_forgotten y
    · exact Table.get?_mapAll s.taps i fun _ x => x.forgotten
  · simp [State.entering, he]
  · refine List.ext_getElem? fun i => ?_
    simp only [State.legsCycledBelow, List.getElem?_mapIdx, List.getElem?_map]
    cases hi : s.legs[i]? with
    | none => rfl
    | some l =>
      have hfour : i < 4 := hlegs ▸ (List.getElem?_eq_some_iff.mp hi).1
      simp [hfour]

end Sys2Proof.Machine
end

section
/-! PROOFS. Clear Store and Read Status (O17): the causes of alarms that are raised anew in an emptied table. -/

namespace Sys2Proof.Machine

variable {s : State} {a : AlarmUnit} {k : AlarmKind} {subject : Nat} {type : AlarmType} {now : Stamp} {e : Entry}

/-! ## What every raise leaves unchanged (R162, R163) -/

@[simp] theorem AlarmUnit.bump_frame (a : AlarmUnit) : a.bump.levels = a.levels ∧ a.bump.mask = a.mask := by
  unfold bump makeRoom
  split <;> simp

@[simp] theorem AlarmUnit.make_frame (a : AlarmUnit) (k : AlarmKind) (subject : Nat) (type : AlarmType) (now : Stamp) :
    (a.make k subject type now).levels = a.levels ∧ (a.make k subject type now).mask = a.mask := by simp [make]

@[simp] theorem AlarmUnit.again_frame (a : AlarmUnit) (k : AlarmKind) (subject : Nat) (now : Stamp) :
    (a.again k subject now).levels = a.levels ∧ (a.again k subject now).mask = a.mask := by
  unfold again
  (repeat' split) <;> simp

@[simp] theorem AlarmUnit.countOverflow_frame (a : AlarmUnit) (now : Stamp) :
    (a.countOverflow now).levels = a.levels ∧ (a.countOverflow now).mask = a.mask := by
  unfold countOverflow
  (repeat' split) <;> simp

@[simp] theorem AlarmUnit.raise_frame (a : AlarmUnit) (k : AlarmKind) (subject : Nat) (type : AlarmType) (now : Stamp) :
    (a.raise k subject type now).levels = a.levels ∧ (a.raise k subject type now).mask = a.mask := by
  unfold raise
  (repeat' split) <;> simp

/-- R162: a new sequence number changes no entry but in its own. -/
theorem AlarmUnit.bump_entries (a : AlarmUnit) : a.bump.table.length = a.table.length ∧
    (∀ j, ∃ f : Nat → Nat, a.bump.table.get? j = (a.table.get? j).map fun e => { e with seq := f e.seq }) ∧
    ∃ f : Nat → Nat, a.bump.overflow = a.overflow.map fun e => { e with seq := f e.seq } := by
  unfold bump makeRoom
  split
  · refine ⟨rfl, fun j => ⟨id, ?_⟩, id, ?_⟩
    · cases a.table.get? j <;> rfl
    · cases a.overflow <;> rfl
  · exact ⟨by simp, fun j => ⟨a.seqPlace, by simp⟩, a.seqPlace, rfl⟩

theorem Table.length_set_of_none {α : Type} {t : Table α} {k : Nat} (h : t.get? k = none) (x : α) : (t.set k x).length = t.length + 1 := by
  induction t with
  | nil => rfl
  | cons p t ih =>
    obtain ⟨i, y⟩ := p
    have hi : i ≠ k := fun hi => by simp [Table.get?, hi] at h
    have ht : Table.get? k t = none := by simpa [Table.get?, hi] using h
    unfold Table.set
    rw [if_neg hi]
    split
    · rfl
    · rw [List.length_cons, ih ht, List.length_cons]

/-! ## Raises of conditions in an emptied table -/

/-- The alarms are those of causes that have been raised, in no order that is said: each RAISED, in the table, but for the entry in the reserved place. -/
structure AlarmUnit.Raised (a : AlarmUnit) (causes : AlarmKind × Nat → Prop) : Prop where
  table : ∀ j e, a.table.get? j = some e → causes (e.kind, e.subject) ∧ e.state = .raised
  overflow : ∀ o, a.overflow = some o → o.kind = .tableOverflow ∧ o.state = .raised

section Weak

variable {causes : AlarmKind × Nat → Prop}

theorem AlarmUnit.Raised.bump (h : a.Raised causes) : a.bump.Raised causes := by
  obtain ⟨-, htable, f, hover⟩ := a.bump_entries
  refine ⟨fun j e he => ?_, fun o ho => ?_⟩
  · obtain ⟨f, hj⟩ := htable j
    obtain ⟨x, hx, rfl⟩ := Option.map_eq_some_iff.mp (hj.symm.trans he)
    exact h.table j x hx
  · obtain ⟨x, hx, rfl⟩ := Option.map_eq_some_iff.mp (hover.symm.trans ho)
    exact h.overflow x hx

/-- An entry of a cause that is written in its place. -/
theorem AlarmUnit.Raised.put (h : a.Raised causes) (hcause : e.kind ≠ .tableOverflow → causes (e.kind, e.subject)) (hstate : e.state = .raised) :
    (a.put e).Raised causes := by
  rw [put_eq]
  split
  next hk => exact ⟨h.table, fun o ho => (Option.some.inj ho) ▸ ⟨hk, hstate⟩⟩
  next hk =>
    refine ⟨fun j x hx => ?_, h.overflow⟩
    rw [Table.get?_set] at hx
    split at hx
    · obtain rfl : e = x := by simpa using hx
      exact ⟨hcause hk, hstate⟩
    · exact h.table j x hx

theorem AlarmUnit.Raised.countOverflow (h : a.Raised causes) : (a.countOverflow now).Raised causes := by
  by_cases hl : a.level .tableOverflow = 0
  · rwa [countOverflow_of_level_zero hl]
  · cases ho : a.overflow with
    | none =>
      rw [countOverflow_of_none hl ho]
      exact h.bump.put (fun h => absurd rfl h) rfl
    | some o =>
      obtain ⟨hkind, hstate⟩ := h.overflow o ho
      rw [countOverflow_of_some hl ho, again_of_raised (k := .tableOverflow) ho hstate]
      exact h.put (fun h => absurd hkind h) hstate

theorem AlarmUnit.Raised.raise (h : a.Raised causes) (hk : k ≠ .tableOverflow) (hcause : causes (k, subject)) :
    (a.raise k subject type now).Raised causes := by
  by_cases hl : a.level k = 0
  · rwa [raise_of_level_zero hl]
  · cases he : a.find? k subject with
    | some x =>
      obtain ⟨hx, hstate⟩ := h.table _ x ((find?_of_ne hk).symm.trans he)
      rw [raise_of_find?_some hl he, again_of_raised he hstate]
      exact h.put (fun _ => hx) hstate
    | none =>
      rcases lt_or_ge a.table.length 128 with hroom | hfull
      · rw [raise_of_room hl he hroom]
        exact h.bump.put (fun _ => hcause) rfl
      · rw [raise_of_full hl he hfull]
        exact h.countOverflow

end Weak

/-- The alarms of a list of causes that have been raised in its order in an empty table. -/
structure AlarmUnit.RaisedAnew (a : AlarmUnit) (cs : List (AlarmKind × Nat)) (now : Stamp) : Prop where
  length : a.table.length = min cs.length 128
  keys : ∀ j e, a.table.get? j = some e → ∃ c ∈ cs, j = alarmKey c.1 c.2
  few : cs.length ≤ 128 → a.overflow = none ∧ a.seq = cs.length
  entries : cs.length ≤ 128 → ∀ n c, cs[n]? = some c →
    a.table.get? (alarmKey c.1 c.2) = some ⟨c.1, c.2, .condition, .raised, 1, n + 1, now, now⟩
  many : 128 < cs.length → a.level .tableOverflow ≠ 0 → a.overflow ≠ none

section Anew

variable {cs : List (AlarmKind × Nat)} {c : AlarmKind × Nat}

/-- A cause that finds room. -/
theorem AlarmUnit.RaisedAnew.room (h : a.RaisedAnew cs now) (hroom : cs.length < 128) (hk : c.1 ≠ .tableOverflow) (hl : a.level c.1 ≠ 0)
    (hnew : ∀ x ∈ cs, alarmKey x.1 x.2 ≠ alarmKey c.1 c.2) : (a.raise c.1 c.2 .condition now).RaisedAnew (cs ++ [c]) now := by
  have hnone : a.table.get? (alarmKey c.1 c.2) = none := by
    by_contra hsome
    obtain ⟨e, he⟩ := Option.ne_none_iff_exists'.mp hsome
    obtain ⟨x, hx, hkey⟩ := h.keys _ e he
    exact hnew x hx hkey.symm
  obtain ⟨hover, hseq⟩ := h.few hroom.le
  have hlength := h.length
  have hraise : a.raise c.1 c.2 .condition now = { a with
      seq := a.seq + 1, table := a.table.set (alarmKey c.1 c.2) ⟨c.1, c.2, .condition, .raised, 1, a.seq + 1, now, now⟩ } := by
    rw [raise_of_room hl ((find?_of_ne hk).trans hnone) (by omega), make_of_lt (by omega), put_of_ne (by exact hk)]
  rw [hraise]
  refine ⟨?_, fun j e he => ?_, fun _ => ⟨hover, by simp [hseq]⟩, fun _ n x hx => ?_, fun hmany => ?_⟩
  · simp only [Table.length_set_of_none hnone, List.length_append, List.length_singleton]
    omega
  · rw [Table.get?_set] at he
    split at he
    next hj => exact ⟨c, by simp, hj.symm⟩
    next =>
      obtain ⟨x, hx, hkey⟩ := h.keys j e he
      exact ⟨x, by simp [hx], hkey⟩
  · rw [Table.get?_set]
    rw [List.getElem?_append] at hx
    split at hx
    · have hmem := List.mem_of_getElem? hx
      rw [if_neg (hnew x hmem).symm]
      exact h.entries hroom.le n x hx
    next hn =>
      obtain ⟨hlast, rfl⟩ := List.getElem?_eq_some_iff.mp hx
      have hn' : n = cs.length := by simp at hlast; omega
      simp [hn', hseq]
  · simp at hmany
    omega

/-- R163: a count in the reserved place leaves the places of the table. -/
theorem AlarmUnit.countOverflow_table (hreserved : ∀ o, a.overflow = some o → o.kind = .tableOverflow ∧ o.state = .raised) :
    (a.countOverflow now).table.length = a.table.length ∧
    (∀ j e, (a.countOverflow now).table.get? j = some e → ∃ x, a.table.get? j = some x) ∧
    (a.level .tableOverflow ≠ 0 → (a.countOverflow now).overflow ≠ none) := by
  by_cases hl : a.level .tableOverflow = 0
  · rw [countOverflow_of_level_zero hl]
    exact ⟨rfl, fun j e he => ⟨e, he⟩, fun h => absurd hl h⟩
  · cases ho : a.overflow with
    | none =>
      obtain ⟨hlength, htable, -⟩ := a.bump_entries
      rw [countOverflow_of_none hl ho, make, put_of_overflow (by rfl)]
      refine ⟨hlength, fun j e he => ?_, fun _ => by simp⟩
      obtain ⟨f, hj⟩ := htable j
      obtain ⟨x, hx, -⟩ := Option.map_eq_some_iff.mp (hj.symm.trans he)
      exact ⟨x, hx⟩
    | some o =>
      obtain ⟨hkind, hstate⟩ := hreserved o ho
      rw [countOverflow_of_some hl ho, again_of_raised (k := .tableOverflow) ho hstate, put_of_overflow (by exact hkind)]
      exact ⟨rfl, fun j e he => ⟨e, he⟩, fun _ => by simp⟩

/-- A cause that is refused for room. -/
theorem AlarmUnit.RaisedAnew.full (h : a.RaisedAnew cs now) (hreserved : ∀ o, a.overflow = some o → o.kind = .tableOverflow ∧ o.state = .raised)
    (hfull : 128 ≤ cs.length) (hk : c.1 ≠ .tableOverflow) (hl : a.level c.1 ≠ 0)
    (hnew : ∀ x ∈ cs, alarmKey x.1 x.2 ≠ alarmKey c.1 c.2) : (a.raise c.1 c.2 .condition now).RaisedAnew (cs ++ [c]) now := by
  have hnone : a.table.get? (alarmKey c.1 c.2) = none := by
    by_contra hsome
    obtain ⟨e, he⟩ := Option.ne_none_iff_exists'.mp hsome
    obtain ⟨x, hx, hkey⟩ := h.keys _ e he
    exact hnew x hx hkey.symm
  have hlength := h.length
  obtain ⟨hcount, hkeys, hmarked⟩ := countOverflow_table (now := now) hreserved
  rw [raise_of_full hl ((find?_of_ne hk).trans hnone) (by omega)]
  refine ⟨?_, fun j e he => ?_, fun hfew => ?_, fun hfew => ?_, fun _ hlo => hmarked (by rwa [level, (a.countOverflow_frame now).1] at hlo)⟩
  · rw [hcount, List.length_append, List.length_singleton]
    omega
  · obtain ⟨x, hx⟩ := hkeys j e he
    obtain ⟨y, hy, hkey⟩ := h.keys j x hx
    exact ⟨y, by simp [hy], hkey⟩
  · simp at hfew
    omega
  · simp at hfew
    omega

theorem AlarmUnit.level_raise (a : AlarmUnit) (k : AlarmKind) (subject : Nat) (type : AlarmType) (now : Stamp) (x : AlarmKind) :
    (a.raise k subject type now).level x = a.level x := by simp [level]

/-- R161: some causes raised, in an order. -/
def AlarmUnit.raiseAll (a : AlarmUnit) (now : Stamp) (order : List (AlarmKind × Nat)) : AlarmUnit :=
  order.foldl (fun a c => a.raise c.1 c.2 .condition now) a

theorem AlarmUnit.raiseAll_frame (a : AlarmUnit) (now : Stamp) (order : List (AlarmKind × Nat)) :
    (a.raiseAll now order).levels = a.levels ∧ (a.raiseAll now order).mask = a.mask := by
  induction order generalizing a with
  | nil => exact ⟨rfl, rfl⟩
  | cons c order ih =>
    obtain ⟨hlevels, hmask⟩ := ih (a.raise c.1 c.2 .condition now)
    exact ⟨hlevels.trans (a.raise_frame ..).1, hmask.trans (a.raise_frame ..).2⟩

/-- R162: causes of kinds at level 0 raise nothing. -/
theorem AlarmUnit.raiseAll_filter (a : AlarmUnit) (now : Stamp) (order : List (AlarmKind × Nat)) :
    a.raiseAll now order = a.raiseAll now (order.filter fun c => decide (0 < a.level c.1)) := by
  induction order generalizing a with
  | nil => rfl
  | cons c order ih =>
    have hstep : a.raiseAll now (c :: order) = (a.raise c.1 c.2 .condition now).raiseAll now order := rfl
    have hlevels : (fun x : AlarmKind × Nat => decide (0 < (a.raise c.1 c.2 .condition now).level x.1)) = fun x => decide (0 < a.level x.1) := by
      funext x
      rw [level_raise]
    rw [hstep, ih, hlevels, List.filter_cons]
    split
    · rfl
    next hzero => rw [raise_of_level_zero (by simpa using hzero)]

theorem AlarmUnit.Raised.raiseAll {causes : AlarmKind × Nat → Prop} {order : List (AlarmKind × Nat)} (h : a.Raised causes)
    (hcauses : ∀ c ∈ order, c.1 ≠ .tableOverflow ∧ causes c) : (a.raiseAll now order).Raised causes := by
  induction order generalizing a with
  | nil => exact h
  | cons c order ih =>
    obtain ⟨hk, hc⟩ := hcauses c List.mem_cons_self
    exact ih (h.raise hk hc) fun x hx => hcauses x (List.mem_cons_of_mem _ hx)

/-- Causes with places of their own, of kinds above level 0, are raised one after the other. -/
theorem AlarmUnit.RaisedAnew.raiseAll {causes : AlarmKind × Nat → Prop} {order : List (AlarmKind × Nat)} (h : a.RaisedAnew cs now)
    (hraised : a.Raised causes) (hcauses : ∀ c ∈ order, c.1 ≠ .tableOverflow ∧ causes c) (hlevels : ∀ c ∈ order, a.level c.1 ≠ 0)
    (hplaces : ((cs ++ order).map fun c => alarmKey c.1 c.2).Nodup) : (a.raiseAll now order).RaisedAnew (cs ++ order) now := by
  induction order generalizing a cs with
  | nil =>
    rw [List.append_nil]
    exact h
  | cons c order ih =>
    obtain ⟨hk, hc⟩ := hcauses c List.mem_cons_self
    have hl := hlevels c List.mem_cons_self
    have hsplit : cs ++ c :: order = (cs ++ [c]) ++ order := by simp
    have hnew : ∀ x ∈ cs, alarmKey x.1 x.2 ≠ alarmKey c.1 c.2 := by
      intro x hx heq
      rw [List.map_append, List.map_cons, List.nodup_append] at hplaces
      exact hplaces.2.2 _ (List.mem_map_of_mem hx) _ (List.mem_cons_self) heq
    have hnext : (a.raise c.1 c.2 .condition now).RaisedAnew (cs ++ [c]) now := by
      rcases lt_or_ge cs.length 128 with hroom | hfull
      · exact h.room hroom hk hl hnew
      · exact h.full hraised.overflow hfull hk hl hnew
    rw [hsplit] at hplaces ⊢
    exact ih hnext (hraised.raise hk hc) (fun x hx => hcauses x (List.mem_cons_of_mem _ hx))
      (fun x hx => by rw [level_raise]; exact hlevels x (List.mem_cons_of_mem _ hx)) hplaces

end Anew

/-! ## Clear Store (R178) -/

theorem outlasting_emptied (s : State) (kind : AlarmKind) (subject : Nat) : (kind, subject) ∈ s.emptied.outlasting ↔ outlasts s kind subject := by
  rw [State.mem_outlasting, outlasts]
  simp [State.emptied, Slot.clearedSlot, Leg.cleared, Leg.atRate]

theorem outlasts_kind {s : State} (h : outlasts s k subject) : k ≠ .tableOverflow := by
  rintro rfl
  simp [outlasts] at h

theorem outlasts_subject {s : State} (hslots : s.slots.length ≤ 96) (hlegs : s.legs.length ≤ 4) (hinputs : s.inputs.length ≤ 32)
    (h : outlasts s k subject) : subject < 65536 := by
  obtain ⟨-, x, hx, -⟩ | ⟨-, l, hx, -⟩ | ⟨-, rfl, -⟩ | ⟨-, x, hx, -⟩ := h
  · have := (List.getElem?_eq_some_iff.mp hx).1
    omega
  · have := (List.getElem?_eq_some_iff.mp hx).1
    omega
  · decide
  · have := (List.getElem?_eq_some_iff.mp hx).1
    omega

theorem alarmKey_inj {x y : AlarmKind} {m n : Nat} (hm : m < 65536) (hn : n < 65536) (h : alarmKey x m = alarmKey y n) : x = y ∧ m = n := by
  unfold alarmKey at h
  have hrank : x.rank = y.rank := by omega
  exact ⟨Option.some.inj ((kindOfRank_rank x).symm.trans (hrank ▸ kindOfRank_rank y)), by omega⟩

/-- R161, R178: the alarms that Clear Store leaves. -/
def State.anewAlarms (s : State) : AlarmUnit :=
  { s.alarms with table := [], overflow := none, seq := 0 }.raiseAll s.now (arrange s.free s.emptied.outlasting)

theorem foldl_raiseCondition (s : State) (order : List (AlarmKind × Nat)) :
    order.foldl (fun s c => s.raiseCondition c.1 c.2) s = { s with alarms := s.alarms.raiseAll s.now order } := by
  induction order generalizing s with
  | nil => rfl
  | cons c order ih =>
    rw [List.foldl_cons, ih]
    rfl

theorem clearStore_eq (s : State) : s.clearStore = { s.emptied with
    mode := .loading, alarms := s.anewAlarms, free := s.free + s.emptied.outlasting.length } := by
  simp only [State.clearStore, State.raiseAnew, foldl_raiseCondition]
  rfl

theorem anewAlarms_raised (s : State) : s.anewAlarms.Raised fun c => outlasts s c.1 c.2 := by
  have hempty : ({ s.alarms with table := [], overflow := none, seq := 0 } : AlarmUnit).Raised fun c => outlasts s c.1 c.2 :=
    ⟨fun j e he => by simp [Table.get?] at he, fun o ho => by simp at ho⟩
  refine hempty.raiseAll fun c hc => ?_
  have houtlasts := (outlasting_emptied s c.1 c.2).mp ((arrange_perm ..).mem_iff.mp hc)
  exact ⟨outlasts_kind houtlasts, houtlasts⟩

/-- R161: the causes of kinds above level 0, raised in the order that is taken. -/
theorem anewAlarms_raisedAnew (hslots : s.slots.length ≤ 96) (hlegs : s.legs.length ≤ 4) (hinputs : s.inputs.length ≤ 32)
    {causes : List (AlarmKind × Nat)} (hdistinct : causes.Nodup)
    (hcauses : ∀ kind subject, (kind, subject) ∈ causes ↔ outlasts s kind subject ∧ 0 < s.alarms.level kind) :
    ∃ order, order.Perm causes ∧ s.anewAlarms.RaisedAnew order s.now := by
  have harranged := arrange_perm s.free s.emptied.outlasting
  have hmem (c : AlarmKind × Nat) : c ∈ (arrange s.free s.emptied.outlasting).filter (fun c => decide (0 < s.alarms.level c.1)) ↔
      outlasts s c.1 c.2 ∧ 0 < s.alarms.level c.1 := by
    rw [List.mem_filter, harranged.mem_iff, outlasting_emptied, decide_eq_true_iff]
  have hnodup := (harranged.nodup_iff.mpr s.emptied.outlasting_nodup).filter fun c => decide (0 < s.alarms.level c.1)
  refine ⟨_, (List.perm_ext_iff_of_nodup hnodup hdistinct).mpr fun c => (hmem c).trans (hcauses c.1 c.2).symm, ?_⟩
  have hempty : ({ s.alarms with table := [], overflow := none, seq := 0 } : AlarmUnit).RaisedAnew [] s.now :=
    ⟨rfl, fun j e he => by simp [Table.get?] at he, fun _ => ⟨rfl, rfl⟩, fun _ n c hc => by simp at hc, fun h => by simp at h⟩
  rw [State.anewAlarms, AlarmUnit.raiseAll_filter]
  refine hempty.raiseAll (causes := fun c => outlasts s c.1 c.2)
    ⟨fun j e he => by simp [Table.get?] at he, fun o ho => by simp at ho⟩ (fun c hc => ?_) (fun c hc => ?_) ?_
  · have houtlasts := ((hmem c).mp hc).1
    exact ⟨outlasts_kind houtlasts, houtlasts⟩
  · exact Nat.pos_iff_ne_zero.mp ((hmem c).mp hc).2
  · refine List.Nodup.map_on (fun x hx y hy heq => ?_) hnodup
    obtain ⟨hk, hsubject⟩ := alarmKey_inj (outlasts_subject hslots hlegs hinputs ((hmem x).mp hx).1)
      (outlasts_subject hslots hlegs hinputs ((hmem y).mp hy).1) heq
    exact Prod.ext hk hsubject

theorem cleared_eq (l : Leg) (rate : Rate) : l.cleared rate = { l with
    activity := .idle, txn := none, tryTimer := 0, pollTimer := none, counters := ⟨0, 0, 0, 0, 0, 0, 0⟩, rx := []
    rate := if l.txn.isSome then rate else l.rate
    measured := if l.txn.isSome ∧ l.rate ≠ rate then 0 else l.measured } := by
  unfold Leg.cleared Leg.atRate LegCounters.zero
  cases l.txn with
  | none => simp
  | some x => by_cases hr : l.rate = rate <;> simp [hr]

/-- Settles O17. -/
theorem clearStoreAndReadStatus : Obligations.ClearStoreAndReadStatus := by
  refine ⟨fun s hl => ⟨s.clearStore, ?_, ?_⟩, fun s hl => ?_⟩
  · simp only [exec, execClearStore]
    rw [request_owner_both (length := 0) (body := []) hl rfl]
    rfl
  · rw [clearStore_eq]
    refine ⟨rfl, rfl, rfl, rfl, rfl, rfl, rfl, rfl, rfl, rfl, rfl, rfl, ?_, rfl, rfl, fun hnone => ?_, (anewAlarms_raised s).table,
      fun hslots hlegs hinputs causes hdistinct hcauses => ?_, ?_, ?_, rfl, rfl, rfl, rfl, rfl, rfl, rfl⟩
    · exact List.map_congr_left fun l _ => cleared_eq l s.link.rate
    · have hempty : s.emptied.outlasting = [] :=
        List.eq_nil_iff_forall_not_mem.mpr fun c hc => hnone c.1 c.2 ((outlasting_emptied s c.1 c.2).mp hc)
      simp only [State.anewAlarms, hempty]
      rfl
    · obtain ⟨order, hperm, h⟩ := anewAlarms_raisedAnew hslots hlegs hinputs hdistinct hcauses
      rw [← hperm.length_eq]
      refine ⟨h.length, fun hfew => ⟨(h.few hfew).1, fun kind subject hc => ?_⟩, fun hmany hlevel => ?_⟩
      · obtain ⟨n, hn, hat⟩ := List.getElem_of_mem (hperm.mem_iff.mpr hc)
        exact ⟨n + 1, by omega, hn, h.entries hfew n (kind, subject) (List.getElem?_eq_some_iff.mpr ⟨hn, hat⟩)⟩
      · have hcounts : s.anewAlarms.level .tableOverflow ≠ 0 := by
          rw [AlarmUnit.level, State.anewAlarms, (AlarmUnit.raiseAll_frame ..).1]
          exact Nat.pos_iff_ne_zero.mp hlevel
        obtain ⟨o, ho⟩ := Option.ne_none_iff_exists'.mp (h.many hmany hcounts)
        exact ⟨o, ho, (anewAlarms_raised s).overflow o ho⟩
    · exact (AlarmUnit.raiseAll_frame ..).1
    · exact (AlarmUnit.raiseAll_frame ..).2
  · simp only [exec, execReadStatus]
    rw [request_owner_both (length := 0) (body := []) hl rfl]
    have hmode : s.mode.code = if s.mode = .live then 1 else 0 := by cases s.mode <;> rfl
    simp only [readStatusOwner, State.statusBody, hmode, wflag]
    rfl

end Sys2Proof.Machine
end
